-- ==== Sys2Proof/Word.lean ====
section
/-! DEFINITION. The word types of the link and of the registers the spec treats as bits. -/

namespace Sys2Proof

/-- One byte of the chain link (09, R159): the 8 data bits of a symbol. -/
abbrev Byte := BitVec 8

/-- A trim code, −32 to +31 (01, 1.4): six bits in two's complement hold exactly that range. -/
abbrev TrimCode := BitVec 6

end Sys2Proof
end

