-- ==== Sys2Proof/Config.lean ====
section
/-! DEFINITION. The constants the spec states in numbers: capacities, durations in microseconds, ranges.
No value here is free: what the spec leaves to the part (readings, the identity record) is an operand of a
row or a field of State. -/

namespace Sys2Proof.Config

/-- R165: the command queue never holds more than 4 frames. -/
def commandQueueCap : Nat := 4
/-- R165: the reply queue never holds more than 4 frames. -/
def replyQueueCap : Nat := 4
/-- R165: each forward buffer never holds more than 2 frames. -/
def forwardCap : Nat := 2
/-- R80: the fault table holds at most 32 entries. -/
def faultCap : Nat := 32
/-- R160: the largest LENGTH of a frame. -/
def maxLength : Nat := 96

/-- R159: one symbol lasts 11 µs. -/
def symbolTime : Nat := 11
/-- R159: one bit lasts 1 µs. -/
def bitTime : Nat := 1
/-- R170: how long RX_S is low without interruption at a break. -/
def breakTime : Nat := 2000
/-- R162: the gap after which a frame in reception is abandoned. -/
def gapTime : Nat := 100
/-- R170: the low drive on TX_N at a break. -/
def breakDriveTime : Nat := 3000
/-- R191: the settings load. -/
def loadTime : Nat := 5000
/-- R4: the power-up settle of the Conversion Unit. -/
def cuSettleTime : Nat := 200
/-- R7: the recovery after an abort. -/
def cuRecoveryTime : Nat := 10
/-- R148: the settle after injection is turned on. -/
def injectSettleTime : Nat := 2000
/-- R189: the duration of a save. -/
def saveTime : Nat := 40000
/-- R127: the unit of QUIET_SETTLE. -/
def quietUnit : Nat := 100
/-- R171: the unit of SILENCE_TIMEOUT. -/
def silenceUnit : Nat := 250000
/-- R181: the unit of ALERT_HOLDOFF. -/
def holdoffUnit : Nat := 10000
/-- R192: the unit of WATCH_INTERVAL. -/
def watchUnit : Nat := 1000000
/-- R18: the pass interval is in milliseconds. -/
def intervalUnit : Nat := 1000

/-- R173: the largest value of a link counter. -/
def linkCounterMax : Nat := 65535
/-- R38: the largest late count. -/
def lateMax : Nat := 65535
/-- R25: the largest pass number. -/
def passMax : Nat := 65535
/-- R78, R84: the largest count of a fault entry and of the eviction counter. -/
def faultCountMax : Nat := 255

/-- R99: the largest duty. -/
def dutyMax : Nat := 32
/-- R99: the largest budget. -/
def budgetMax : Nat := 16777215

/-- Introduction, Sources: the number of sources. -/
def sources : Nat := 21
/-- Introduction, Pins: the number of bleed channels and of cells the part has. -/
def channels : Nat := 14

end Sys2Proof.Config
end

