-- ==== Sys2Proof/Syntax.lean ====
section
/-! DEFINITION. The commands of the block: one constructor for each row of spec/opcode_table.json.
A row is one whole event (spec/95_what_each_step_holds.md). Rows of the Command Handler carry no operand: the
frame they take stands at the front of the command queue in State (R176). -/

namespace Sys2Proof

/-- The four lanes (09, 9.3): RX_S, RX_N, and the node's own TX_S and TX_N read back. -/
inductive Lane where
  | rxS | rxN | txS | txN
  deriving DecidableEq, Repr

/-- The three clients of the Conversion Unit (R14), which are also the requesters of quiet (R126). -/
inductive Client where
  | seq | mu | watch
  deriving DecidableEq, Repr

/-- A symbol as a lane receiver samples it (R159): each of its 11 bits is sampled three times. Bit `i` of
`first`, `second`, `third` is the first, second, third sample of the `i`-th bit in time: the start bit (0), the
8 data bits with the least significant first (1 to 8), the mark bit (9), the stop bit (10). `afterHigh` says that the line
had been high for one full bit time when the start bit began, which a receiver asks for after a framing error. -/
structure LineSymbol where
  first : BitVec 11
  second : BitVec 11
  third : BitVec 11
  afterHigh : Bool
  deriving DecidableEq, Repr

/-- The commands. `dt` is the time in microseconds since the previous event; a row that names no time is a
timer's expiry, which brings its own time, or the taking of a queued command, which happens at once. -/
inductive Instr where
  /-- The module supply rises (R191). -/
  | powerOnReset (dt : Nat)
  /-- RX_S has been low for 2 ms (R170). -/
  | breakDetected (dt : Nat)
  /-- The 3 ms drive on TX_N ends; `rxSHigh` says whether RX_S is high then (R170). -/
  | breakDriveEnd (rxSHigh : Bool)
  /-- RX_S returns high after the drive has ended (R170). -/
  | breakRelease (dt : Nat)
  /-- The 5 ms settings load ends (R191). -/
  | startUpComplete
  /-- The 200 µs power-up settle ends (R4). -/
  | cuSettleExpiry
  /-- A conversion's duration elapses (R6). `reading` is the converter's reading of the input without the trim
  code, in thousandths of the unit in which it is delivered (log entry 6). -/
  | conversionComplete (reading : Int)
  /-- The 10 µs recovery ends (R8). -/
  | cuRecoveryExpiry
  /-- The due time expires in PASS_GAP (R34). -/
  | passDueExpiry
  /-- The waiting quiet request of `who` reaches its grant time (R130). -/
  | quietGrant (who : Client)
  /-- A slot ends (R101). -/
  | slotBoundary
  /-- The 2 ms injection settle ends (R148). -/
  | injectSettleExpiry
  /-- The link silence timer expires (R171). -/
  | linkSilenceExpiry
  /-- The 40 ms save ends (R189). -/
  | storeSaveComplete
  /-- The watch timer expires (R194). -/
  | watchTimerExpiry
  /-- The alert holdoff elapses with reasons pending (R181). -/
  | alertHoldoffExpiry
  /-- Lane 0 takes the last symbol of a good frame (R163). -/
  | frameReceivedSouth (dt : Nat) (sym : LineSymbol)
  /-- Lane 1 takes the last symbol of a good frame (R164). -/
  | frameReceivedNorth (dt : Nat) (sym : LineSymbol)
  /-- A read-back lane takes the last symbol of a good frame (R161). -/
  | frameReadBack (dt : Nat) (lane : Lane) (sym : LineSymbol)
  /-- A stop bit is taken low (R162). -/
  | framingError (dt : Nat) (lane : Lane) (sym : LineSymbol)
  /-- A LENGTH byte above 96 (R162). -/
  | lengthError (dt : Nat) (lane : Lane) (sym : LineSymbol)
  /-- A mark byte inside a frame (R162). -/
  | truncatedFrame (dt : Nat) (lane : Lane) (sym : LineSymbol)
  /-- The low CRC byte does not match (R162). -/
  | crcMismatch (dt : Nat) (lane : Lane) (sym : LineSymbol)
  /-- More than 100 µs pass between two symbols of a frame (R162). -/
  | gapTimeout (lane : Lane)
  /-- The last symbol on TX_N is sent (R166). -/
  | txNFrameSent
  /-- The last symbol on TX_S is sent (R167). -/
  | txSFrameSent
  /-- A command of unknown KIND is taken (R175). -/
  | unknownKindCommand
  /-- ASSIGN is taken (R168). -/
  | assign
  /-- PING is taken (R178). -/
  | ping
  /-- READ_IDENTITY is taken (R178). -/
  | readIdentity
  /-- READ_LINK_COUNTERS is taken (R173). -/
  | readLinkCounters
  /-- RESET_NODE is taken (R179). -/
  | resetNode
  /-- CONFIG_WRITE of POPULATION is taken (R2). -/
  | configWritePopulation
  /-- CONFIG_WRITE of AUX_ROLE 1 to 4 is taken (R72). -/
  | configWriteAuxRole
  /-- CONFIG_WRITE of SUM_TOL is taken (R71). -/
  | configWriteSumTol
  /-- CONFIG_WRITE of QUIET_SETTLE is taken (R127). -/
  | configWriteQuietSettle
  /-- CONFIG_WRITE of EQ_FRAME is taken (R98). -/
  | configWriteEqFrame
  /-- CONFIG_WRITE of SILENCE_TIMEOUT is taken (R172). -/
  | configWriteSilenceTimeout
  /-- CONFIG_WRITE of ALERT_ENABLE is taken (R182). -/
  | configWriteAlertEnable
  /-- CONFIG_WRITE of ALERT_HOLDOFF is taken (R182). -/
  | configWriteAlertHoldoff
  /-- CONFIG_WRITE of WATCH_INTERVAL is taken (R187). -/
  | configWriteWatchInterval
  /-- CONFIG_WRITE of LINE_THRESHOLD is taken (R187). -/
  | configWriteLineThreshold
  /-- CONFIG_WRITE of AUTOSTART is taken (R187). -/
  | configWriteAutostart
  /-- CONFIG_WRITE of REPORT_LIST 0 to 3 is taken (R51). -/
  | configWriteReportList
  /-- CONFIG_READ is taken (R187). -/
  | configRead
  /-- LIMIT_WRITE is taken (R61, R62). -/
  | limitWrite
  /-- LIMIT_READ is taken (R63). -/
  | limitRead
  /-- STORE_SAVE is taken (R189). -/
  | storeSave
  /-- STORE_DEFAULTS is taken (R190). -/
  | storeDefaults
  /-- PLAN_WRITE is taken (R19, R20). -/
  | planWrite
  /-- PLAN_READ is taken (R21). -/
  | planRead
  /-- SCAN_START is taken (R36). -/
  | scanStart
  /-- SCAN_STOP is taken (R37). -/
  | scanStop
  /-- SCAN_STATUS is taken (R38). -/
  | scanStatus
  /-- READ_RESULTS is taken (R48, R49). -/
  | readResults
  /-- READ_REPORT is taken (R52). -/
  | readReport
  /-- CLEAR_EXTREMA is taken (R54). -/
  | clearExtrema
  /-- FAULT_READ is taken (R85). -/
  | faultRead
  /-- FAULT_ACK is taken (R87). -/
  | faultAck
  /-- FAULT_ACK_CLEARED is taken (R89). -/
  | faultAckCleared
  /-- EQ_SET is taken (R108, R109). -/
  | eqSet
  /-- EQ_STOP is taken (R112). -/
  | eqStop
  /-- EQ_RESUME is taken (R114). -/
  | eqResume
  /-- EQ_READ is taken (R120). -/
  | eqRead
  /-- TRIM is taken (R140). -/
  | trim
  /-- LINE_CHECK is taken (R140). -/
  | lineCheck
  /-- MAINT_ABORT is taken (R154). -/
  | maintAbort
  /-- STANDBY is taken (R192). -/
  | standby
  /-- A lane takes a symbol that neither ends nor breaks a frame (R161). -/
  | symbolReceived (dt : Nat) (lane : Lane) (sym : LineSymbol)
  /-- The module supply falls (R189). -/
  | powerLoss (dt : Nat)
  deriving DecidableEq, Repr

end Sys2Proof
end

