-- ==== Sys2Proof/Machine/Symbols.lean ====
section
/-! DEFINITION. What a lane receiver reads off the three samples of each bit of a symbol (R159). -/

namespace Sys2Proof

namespace LineSymbol

/-- R159: the value at least two of the three samples agree on, for each bit. -/
def majority (y : LineSymbol) : BitVec 11 :=
  (y.first &&& y.second) ||| (y.first &&& y.third) ||| (y.second &&& y.third)

/-- R159: a symbol begins at the falling edge of its start bit, so its start bit is low. Of a start bit taken high the spec says
nothing: the model takes it as no symbol (log entry 31). -/
def starts (y : LineSymbol) : Bool := !(y.majority.getLsbD 0)

/-- R159: the stop bit is high; one taken low is a framing error (R162). -/
def stops (y : LineSymbol) : Bool := y.majority.getLsbD 10

/-- R159: the mark bit. -/
def marked (y : LineSymbol) : Bool := y.majority.getLsbD 9

/-- R159: the byte carried, least significant bit first. -/
def byte (y : LineSymbol) : Byte := y.majority.extractLsb' 1 8

/-- R159: in some bit the three samples do not all agree. -/
def noisy (y : LineSymbol) : Bool := !(y.first == y.second && y.second == y.third)

/-- How many bits at the end of the symbol are low: how long before its end the line was last high. A symbol of low bits
only was preceded by the high level its start bit fell from. -/
def lowTail (y : LineSymbol) : Nat := ((List.range 11).find? fun i => y.majority.getLsbD (10 - i)).getD 11

/-- A symbol with a proper stop bit and no mark. -/
def plain (y : LineSymbol) : Bool := y.starts && y.stops && !y.marked

end LineSymbol

end Sys2Proof
end

