-- ==== Sys2Proof/WellFormed.lean ====
section
/-! DEFINITION. Which commands are well formed, by their operands alone: the symbol a row names must be one that
row can be about. Whether the event can occur in a given state is the meaning's business. -/

namespace Sys2Proof

/-- Well-formedness of a command. That a symbol with a start bit taken high is none is the model's choice (log entry 31). -/
def Instr.wf : Instr → Bool
  | .frameReceivedSouth _ y => y.plain
  | .frameReceivedNorth _ y => y.plain
  | .frameReadBack _ l y => y.plain && (l == .txS || l == .txN)
  | .framingError _ _ y => y.starts && !y.stops
  | .lengthError _ _ y => y.plain && decide (Config.maxLength < y.byte.toNat)
  | .truncatedFrame _ _ y => y.starts && y.stops && y.marked
  | .crcMismatch _ _ y => y.plain
  | .symbolReceived _ _ y => y.starts && y.stops
  | .powerOnReset _ => true
  | .breakDetected _ => true
  | .breakDriveEnd _ => true
  | .breakRelease _ => true
  | .startUpComplete => true
  | .cuSettleExpiry => true
  | .conversionComplete _ => true
  | .cuRecoveryExpiry => true
  | .passDueExpiry => true
  | .quietGrant _ => true
  | .slotBoundary => true
  | .injectSettleExpiry => true
  | .linkSilenceExpiry => true
  | .storeSaveComplete => true
  | .watchTimerExpiry => true
  | .alertHoldoffExpiry => true
  | .gapTimeout _ => true
  | .txNFrameSent => true
  | .txSFrameSent => true
  | .unknownKindCommand => true
  | .assign => true
  | .ping => true
  | .readIdentity => true
  | .readLinkCounters => true
  | .resetNode => true
  | .configWritePopulation => true
  | .configWriteAuxRole => true
  | .configWriteSumTol => true
  | .configWriteQuietSettle => true
  | .configWriteEqFrame => true
  | .configWriteSilenceTimeout => true
  | .configWriteAlertEnable => true
  | .configWriteAlertHoldoff => true
  | .configWriteWatchInterval => true
  | .configWriteLineThreshold => true
  | .configWriteAutostart => true
  | .configWriteReportList => true
  | .configRead => true
  | .limitWrite => true
  | .limitRead => true
  | .storeSave => true
  | .storeDefaults => true
  | .planWrite => true
  | .planRead => true
  | .scanStart => true
  | .scanStop => true
  | .scanStatus => true
  | .readResults => true
  | .readReport => true
  | .clearExtrema => true
  | .faultRead => true
  | .faultAck => true
  | .faultAckCleared => true
  | .eqSet => true
  | .eqStop => true
  | .eqResume => true
  | .eqRead => true
  | .trim => true
  | .lineCheck => true
  | .maintAbort => true
  | .standby => true
  | .powerLoss _ => true

end Sys2Proof
end

