-- ==== Sys2Proof/Decode.lean ====
section
/-! DEFINITION. The table's words. spec/opcode_table.json gives no row any bits ("fields": [] and no "fixed"
everywhere), so no word spells a command. -/

namespace Sys2Proof

/-- The command a word of the table spells: none, for the table gives bits to no row. -/
def decodeTableWord (_nbits _w : Nat) : Option Instr := none

end Sys2Proof
end

