-- ==== Sys2Proof/Machine/State.lean ====
section
/-! DEFINITION. The state of the NZM1412, block by block as the introduction lists them, all of it plain data;
the reasons a step can stop; the state after a power-on reset. Times are moments in microseconds. -/

namespace Sys2Proof.Machine

/-- Why the machine would stop with a fault: no rule of the spec stops the machine, so there is no reason and
nobody raises one (safe: nothing is cut off). What the spec calls a fault is an entry of the Fault Table. -/
inductive Fault where
  deriving DecidableEq, Repr

/-- Why a command would be refused. -/
inductive Refusal where
  /-- Raised by an arm of exec whose row has no meaning yet (none today); safe. -/
  | notModelled (mnemonic : String)
  deriving DecidableEq, Repr

/-! ### Identity (R178) -/

/-- The trim table, or the factory trim: one code per range (01, 1.4). -/
structure TrimTable where
  cell : TrimCode
  aux : TrimCode
  stack : TrimCode
  deriving DecidableEq, Repr

/-- The parts of the identity record that differ from part to part (R178); family code, part code and cell
input count are constants of the layout (R185). -/
structure Identity where
  revision : Byte
  serial : BitVec 32
  factoryTrim : TrimTable
  deriving DecidableEq, Repr

/-! ### Plans and the Scan Sequencer (02) -/

/-- Plan mode (R18). -/
inductive Mode where
  | single | continuous
  deriving DecidableEq, Repr

/-- Conversion kind (01, 1.1). -/
inductive ConvKind where
  | fast | normal | fine
  deriving DecidableEq, Repr

/-- A step of a plan (R18). `source` is a source code; `samples` is 1, 2, 4, 8 or 16. -/
structure Step where
  source : Nat
  samples : Nat
  kind : ConvKind
  quiet : Bool
  deriving DecidableEq, Repr

/-- A plan (R18); `interval` in milliseconds. -/
structure Plan where
  mode : Mode
  interval : Nat
  steps : List Step
  deriving DecidableEq, Repr

/-- Sequencer state (02, 2.3). -/
inductive SeqState where
  | stopped | waitingCu | quietWait | converting | passGap | deferred
  deriving DecidableEq, Repr

/-- The sample accumulation of the step in progress (R28). -/
structure Accum where
  sum : Int
  least : Int
  greatest : Int
  count : Nat
  deriving DecidableEq, Repr

/-- The Scan Sequencer (02, 2.3). -/
structure Sequencer where
  active : Option Plan
  staged : Option Plan
  st : SeqState
  epoch : BitVec 8
  passCounter : Nat
  passDone : Bool
  late : Nat
  stepIndex : Option Nat
  due : Option Nat
  passStart : Option Nat
  acc : Option Accum
  deriving DecidableEq, Repr

/-! ### Conversion Unit (01) -/

/-- Measurement range (Introduction). -/
inductive Range where
  | cell | aux | stack
  deriving DecidableEq, Repr

/-- What a conversion request names (R5). -/
inductive ConvRequest where
  | source (code : Nat) (kind : ConvKind)
  | zeroInput (range : Range) (code : TrimCode) (kind : ConvKind)
  | lineSpan (a b : Nat) (kind : ConvKind)
  deriving DecidableEq, Repr

/-- The injection setting (R13). -/
inductive Injection where
  | off
  | on (a b : Nat)
  deriving DecidableEq, Repr

/-- A conversion in progress with what it read at its start (R5) and the moment it completes (R6). -/
structure Conversion where
  request : ConvRequest
  trim : TrimCode
  population : Nat
  injection : Injection
  endsAt : Nat
  deriving DecidableEq, Repr

/-- State of the Conversion Unit (01, 1.3), with its timer. -/
inductive CuState where
  | off
  | powering (expiry : Nat)
  | idle
  | converting (c : Conversion)
  | recovering (expiry : Nat)
  deriving DecidableEq, Repr

/-- The Conversion Unit (01, 1.3). `waiting` is the waiting client; it is a list because of log entry 8. -/
structure ConversionUnit where
  st : CuState
  holder : Option Client
  waiting : List Client
  request : Option ConvRequest
  injection : Injection
  heldInjection : Option Injection
  trim : TrimTable
  deriving DecidableEq, Repr

/-! ### Result Table (03) -/

/-- Who wrote a record (R44). -/
inductive Origin where
  | plan | watch
  deriving DecidableEq, Repr

/-- Extrema of a record (R44, R46). -/
structure Extrema where
  least : Int
  greatest : Int
  deriving DecidableEq, Repr

/-- The fields of a WRITTEN record (R44). -/
structure Written where
  value : Int
  fresh : Bool
  origin : Origin
  epoch : BitVec 8
  pass : Nat
  samples : Nat
  spread : Option Nat
  extrema : Option Extrema
  deriving DecidableEq, Repr

/-- A record of the Result Table: EMPTY when `content` is none (R44). -/
structure Record where
  source : Nat
  content : Option Written
  deriving DecidableEq, Repr

/-! ### Limit Monitor (04) -/

/-- A limit configuration (R59). -/
structure LimitCfg where
  upper : Option Int
  lower : Option Int
  p : Nat
  deriving DecidableEq, Repr

/-- Limit state (R64). -/
inductive LimitState where
  | normal | high | low
  deriving DecidableEq, Repr

/-- What the Limit Monitor holds for one source (R59, R64). -/
structure LimitRec where
  source : Nat
  cfg : LimitCfg
  st : LimitState
  overCount : Nat
  underCount : Nat
  releaseCount : Nat
  deriving DecidableEq, Repr

/-- The Limit Monitor; `passSources` and `popMark` are the set and the mark of R69. -/
structure LimitMonitor where
  recs : List LimitRec
  passSources : List Nat
  popMark : Bool
  deriving DecidableEq, Repr

/-! ### Fault Table (05) -/

/-- The fourteen kinds (R79). -/
inductive FaultKind where
  | cellHigh | cellLow | auxHigh | auxLow | stackHigh | stackLow | dieHot | dieCold | refFault
  | sumMismatch | lineOpen | trimRail | linkSilent | storeInvalid
  deriving DecidableEq, Repr

/-- A fault entry (R78); `active` is true for ACTIVE and false for CLEARED. -/
structure FaultEntry where
  kind : FaultKind
  source : Nat
  active : Bool
  count : Nat
  first : Nat
  last : Nat
  value : Option Int
  deriving DecidableEq, Repr

/-- The Fault Table, oldest entry first (R80). -/
structure FaultTable where
  entries : List FaultEntry
  evictions : Nat
  deriving DecidableEq, Repr

/-! ### Equalizer (06, 07) -/

/-- Equalizer state (R96). -/
inductive EqState where
  | idle | running | safeStop | disabled
  deriving DecidableEq, Repr

/-- Staged duty and budget (R99). -/
structure Staged where
  duty : Nat
  budget : Nat
  deriving DecidableEq, Repr

/-- A channel record (R99). `done` is the channel's bit of the done mask (R121). `kept` says that the switch
was opened at the very end of a slot throughout which it was closed, so that the slot still counts (R105; log
entry 10). -/
structure Channel where
  num : Nat
  duty : Nat
  budget : Nat
  staged : Option Staged
  closed : Bool
  openSince : Nat
  lifetime : BitVec 32
  done : Bool
  kept : Bool
  deriving DecidableEq, Repr

/-- A quiet request (R126). -/
structure QuietReq where
  set : List Nat
  settle : Nat
  grantAt : Nat
  granted : Bool
  deriving DecidableEq, Repr

/-- The quiet request list: one place for each requester (R126). -/
structure QuietList where
  seq : Option QuietReq
  mu : Option QuietReq
  watch : Option QuietReq
  deriving DecidableEq, Repr

/-- The Equalizer (R96). `slotEnd` is the moment the current slot ends; none when the frame timer is stopped. -/
structure Equalizer where
  st : EqState
  frameMs : Nat
  slot : Nat
  slotEnd : Option Nat
  channels : List Channel
  quiet : QuietList
  preStandby : Option EqState
  deriving DecidableEq, Repr

/-! ### Maintenance Unit (08) -/

/-- State of the Maintenance Unit (R141). -/
inductive MuState where
  | idle | leaseWait | quietWait | trimTrial | spanOff
  | injectSettle (expiry : Nat)
  | spanOn
  deriving DecidableEq, Repr

/-- A set of ranges (R141). -/
structure RangeSet where
  cell : Bool
  aux : Bool
  stack : Bool
  deriving DecidableEq, Repr

/-- Committed codes, absent where nothing is committed (R141). -/
structure Committed where
  cell : Option TrimCode
  aux : Option TrimCode
  stack : Option TrimCode
  deriving DecidableEq, Repr

/-- The TRIM fields of the operation record (R141). -/
structure TrimOp where
  selected : RangeSet
  committed : Committed
  range : Range
  u : BitVec 6
  bit : Nat
  deriving DecidableEq, Repr

/-- Round kind of a line check (R141). -/
inductive RoundKind where
  | first | search | confirm
  deriving DecidableEq, Repr

/-- The LINE_CHECK fields of the operation record (R141). -/
structure LineOp where
  n : Nat
  threshold : Nat
  lo : Nat
  hi : Nat
  round : RoundKind
  a : Nat
  b : Nat
  rounds : Nat
  offReading : Option Int
  deriving DecidableEq, Repr

/-- The kind of operation with its fields (R141). -/
inductive OpBody where
  | trim (t : TrimOp)
  | line (l : LineOp)
  deriving DecidableEq, Repr

/-- The operation record (R141). `broadcast`: started by a broadcast frame, so it forms no reply (R169). -/
structure Operation where
  tag : Byte
  broadcast : Bool
  body : OpBody
  deriving DecidableEq, Repr

/-- The Maintenance Unit (R141). -/
structure MaintenanceUnit where
  st : MuState
  op : Option Operation
  deriving DecidableEq, Repr

/-! ### Link Interface (09) -/

/-- A frame (R160). Its LENGTH is the length of the payload and its CRC follows from the rest. -/
structure Frame where
  address : Byte
  kind : Byte
  payload : List Byte
  deriving DecidableEq, Repr

/-- A lane receiver with what it holds of the frame so far (R161). -/
inductive Receiver where
  | hunt
  | header (address : Byte) (kind : Option Byte)
  | payload (address kind : Byte) (length : Nat) (got : List Byte)
  | crc (address kind : Byte) (got : List Byte) (high : Option Byte)
  deriving DecidableEq, Repr

/-- The seven counters of a lane (R173). -/
structure LaneCounters where
  framing : Nat
  crc : Nat
  length : Nat
  timeout : Nat
  truncated : Nat
  noise : Nat
  forwardDrop : Nat
  deriving DecidableEq, Repr

/-- A lane: receiver, end of the last symbol (the gap timer, R162), whether the receiver waits for a high line after a
framing error (R159), counters. -/
structure LaneState where
  rx : Receiver
  lastEnd : Nat
  waiting : Bool
  counters : LaneCounters
  deriving DecidableEq, Repr

/-- Where a southbound frame comes from (R167). -/
inductive Sender where
  | reply | forward
  deriving DecidableEq, Repr

/-- A transmission on TX_S: whose frame, and when its last symbol is sent. -/
structure SouthTx where
  sender : Sender
  endsAt : Nat
  deriving DecidableEq, Repr

/-- The Link Interface (09). `txN` is the end of the transmission in progress on TX_N; `silence` the expiry of
the link silence timer, none when it is stopped (R171); `rxSHigh` the last moment at which RX_S was seen high (R170). -/
structure LinkInterface where
  address : Nat
  laneRxS : LaneState
  laneRxN : LaneState
  laneTxS : LaneState
  laneTxN : LaneState
  rxSHigh : Nat
  north : List Frame
  south : List Frame
  txN : Option Nat
  txS : Option SouthTx
  lastSender : Sender
  commandDrop : Nat
  replyDrop : Nat
  misaddressed : Nat
  silence : Option Nat
  deriving DecidableEq, Repr

/-! ### Command Handler (10) -/

/-- The pending set of the alert generator (R181). -/
structure AlertReasons where
  faultNew : Bool
  eqFinished : Bool
  watchWake : Bool
  deriving DecidableEq, Repr

/-- Whose completion reply waits (R177). -/
inductive ReplyOwner where
  | maintenance | store
  deriving DecidableEq, Repr

/-- A completion reply waiting for a place (R177). -/
structure PendingReply where
  owner : ReplyOwner
  frame : Frame
  deriving DecidableEq, Repr

/-- The Command Handler (10, 10.2). -/
structure CommandHandler where
  cmdQueue : List Frame
  replyQueue : List Frame
  pendingReplies : List PendingReply
  reasons : AlertReasons
  lastAlert : Option Nat
  deriving DecidableEq, Repr

/-! ### Configuration set and Settings Store (11) -/

/-- Role of an auxiliary input (R72). -/
inductive AuxRole where
  | general | heatIfLow | heatIfHigh
  deriving DecidableEq, Repr

/-- The configuration set (R186), less the limit configurations, which the Limit Monitor holds. -/
structure Settings where
  population : Nat
  role1 : AuxRole
  role2 : AuxRole
  role3 : AuxRole
  role4 : AuxRole
  sumTol : Nat
  quietSettle : Nat
  eqFrame : Nat
  silenceTimeout : Nat
  alertEnable : Bool
  alertHoldoff : Nat
  watchInterval : Nat
  lineThreshold : Nat
  autostart : Bool
  list0 : List Nat
  list1 : List Nat
  list2 : List Nat
  list3 : List Nat
  deriving DecidableEq, Repr

/-- What the store image holds (R188), less its check value; `limits` are those of sources 1 to 20 in order. -/
structure Image where
  settings : Settings
  limits : List LimitCfg
  trim : TrimTable
  plan : Option Plan
  deriving DecidableEq, Repr

/-- A save in progress (R189). -/
structure Saving where
  snapshot : Image
  tag : Byte
  broadcast : Bool
  endsAt : Nat
  deriving DecidableEq, Repr

/-- The Settings Store (11, 11.2). `image` is none when the image fails its check (R188; log entry 14). -/
structure SettingsStore where
  image : Option Image
  saving : Option Saving
  deriving DecidableEq, Repr

/-! ### Power Controller (11) -/

/-- Power state (11, 11.3). -/
inductive PowerState where
  | starting | active | standby
  deriving DecidableEq, Repr

/-- Cause of the last reset (R195). -/
inductive ResetCause where
  | powerOn | break_ | soft
  deriving DecidableEq, Repr

/-- How far the node has come since the last reset (R170, R191): no supply (log entry 16), the 3 ms drive on
TX_N, waiting for RX_S to return high, the settings load, start-up complete. -/
inductive Phase where
  | unpowered
  | breakDrive (expiry : Nat)
  | breakWait
  | loading (expiry : Nat)
  | complete
  deriving DecidableEq, Repr

/-- How far a watch pass has come (R194); `converting` names the source of its step. -/
inductive WatchStage where
  | leaseWait | quietWait
  | converting (source : Nat)
  deriving DecidableEq, Repr

/-- A watch pass in progress (R194): the population recorded at its start, its pass number, its stage. -/
structure WatchPass where
  n : Nat
  pass : Nat
  stage : WatchStage
  deriving DecidableEq, Repr

/-- The Power Controller (11, 11.3). -/
structure PowerController where
  power : PowerState
  phase : Phase
  cause : ResetCause
  watchTimer : Option Nat
  watchRaise : Bool
  watchPass : Option WatchPass
  deriving DecidableEq, Repr

/-! ### The node -/

/-- Everything the spec gives the node, and the moment it is at. -/
structure Node where
  now : Nat
  identity : Identity
  cfg : Settings
  cu : ConversionUnit
  seq : Sequencer
  rt : List Record
  lm : LimitMonitor
  ft : FaultTable
  eq : Equalizer
  mu : MaintenanceUnit
  li : LinkInterface
  ch : CommandHandler
  ss : SettingsStore
  pc : PowerController
  deriving DecidableEq, Repr

/-- The machine: the node and the commands that wait for it, first in, first out. -/
structure State extends Node where
  pending : List Instr
  deriving DecidableEq, Repr

/-! ### Reset values -/

/-- Factory defaults of the configuration set (R186). -/
def Settings.factory : Settings where
  population := 14
  role1 := .general
  role2 := .general
  role3 := .general
  role4 := .general
  sumTol := 2000
  quietSettle := 5
  eqFrame := 1024
  silenceTimeout := 8
  alertEnable := true
  alertHoldoff := 10
  watchInterval := 10
  lineThreshold := 500
  autostart := false
  list0 := []
  list1 := []
  list2 := []
  list3 := []

/-- Factory limit configuration of a source (R59). -/
def LimitCfg.factory (source : Nat) : LimitCfg :=
  if source ≤ 14 then { upper := some 42500, lower := some 25000, p := 3 }
  else if source ≤ 19 then { upper := none, lower := none, p := 3 }
  else if source = 20 then { upper := some 1050, lower := none, p := 2 }
  else { upper := some 12625, lower := some 12375, p := 2 }

/-- The source codes 1 to 21. -/
def sourceCodes : List Nat := List.range' 1 Config.sources

/-- The channel numbers 1 to 14. -/
def channelNumbers : List Nat := List.range' 1 Config.channels

/-- A source's limit record after a reset (R76). -/
def LimitRec.initial (source : Nat) : LimitRec where
  source := source
  cfg := LimitCfg.factory source
  st := .normal
  overCount := 0
  underCount := 0
  releaseCount := 0

/-- A channel record after a reset at the moment `t` (R125). -/
def Channel.initial (t num : Nat) : Channel where
  num := num
  duty := 0
  budget := 0
  staged := none
  closed := false
  openSince := t
  lifetime := 0
  done := false
  kept := false

/-- All seven counters at 0. -/
def LaneCounters.zero : LaneCounters where
  framing := 0
  crc := 0
  length := 0
  timeout := 0
  truncated := 0
  noise := 0
  forwardDrop := 0

/-- A lane whose receiver starts at the moment `t`, with the counters of a power-on or break reset (R174; log entry 17). -/
def LaneState.initial (t : Nat) : LaneState where
  rx := .hunt
  lastEnd := t
  waiting := false
  counters := LaneCounters.zero

/-- The sequencer after every reset (R42). -/
def Sequencer.initial : Sequencer where
  active := none
  staged := none
  st := .stopped
  epoch := 0
  passCounter := 0
  passDone := false
  late := 0
  stepIndex := none
  due := none
  passStart := none
  acc := none

/-- The Result Table after every reset (R57). -/
def initialRecords : List Record := sourceCodes.map fun s => { source := s, content := none }

/-- The quiet request list after every reset (R125). -/
def QuietList.empty : QuietList where
  seq := none
  mu := none
  watch := none

/-- The pending set after every reset (R182). -/
def AlertReasons.none : AlertReasons where
  faultNew := false
  eqFinished := false
  watchWake := false

/-- The node as a power-on or break reset at the moment `t` leaves it: every block at the values its chapter
gives (R17, R42, R57, R76, R95, R125, R158, R174, R180, R182, R189, R195). What a reset keeps are the identity
record and the store image; the two resets differ in the cause and in the phase start-up is in. -/
def Node.cold (t : Nat) (identity : Identity) (image : Option Image) (cause : ResetCause) (phase : Phase) :
    Node where
  now := t
  identity := identity
  cfg := Settings.factory
  cu := {
    st := .off
    holder := none
    waiting := []
    request := none
    injection := .off
    heldInjection := none
    trim := identity.factoryTrim }
  seq := Sequencer.initial
  rt := initialRecords
  lm := { recs := sourceCodes.map LimitRec.initial, passSources := [], popMark := false }
  ft := { entries := [], evictions := 0 }
  eq := {
    st := .idle
    frameMs := 1024
    slot := 0
    slotEnd := none
    channels := channelNumbers.map (Channel.initial t)
    quiet := QuietList.empty
    preStandby := none }
  mu := { st := .idle, op := none }
  li := {
    address := 0
    laneRxS := LaneState.initial t
    laneRxN := LaneState.initial t
    laneTxS := LaneState.initial t
    laneTxN := LaneState.initial t
    rxSHigh := t
    north := []
    south := []
    txN := none
    txS := none
    lastSender := .forward
    commandDrop := 0
    replyDrop := 0
    misaddressed := 0
    silence := none }
  ch := {
    cmdQueue := []
    replyQueue := []
    pendingReplies := []
    reasons := AlertReasons.none
    lastAlert := none }
  ss := { image := image, saving := none }
  pc := {
    power := .starting
    phase := phase
    cause := cause
    watchTimer := none
    watchRaise := false
    watchPass := none }

/-- The identity record of State.reset: all zero (DESIGN CHOICE, log entry 13). -/
def Identity.zero : Identity where
  revision := 0
  serial := 0
  factoryTrim := { cell := 0, aux := 0, stack := 0 }

/-- The machine right after a power-on reset of a new part at the moment 0: the settings load and the power-up
settle have begun (R17, R191), the store image fails its check (R188, log entry 14), no command waits. -/
def State.reset : State :=
  let node := Node.cold 0 Identity.zero none .powerOn (.loading Config.loadTime)
  { node with
    cu := { node.cu with st := .powering Config.cuSettleTime }
    pending := [] }

end Sys2Proof.Machine
end

