-- ==== Sys2Proof/Machine/Bytes.lean ====
section
/-! DEFINITION. Byte order, rounding, saturating counters and the check value of a frame. -/

namespace Sys2Proof.Machine

/-- A counter that stops at its largest value (Introduction, Counters). -/
def satInc (most n : Nat) : Nat := min (n + 1) most

/-- `num / den` rounded half up, towards the larger value on a tie (R1, R29; Introduction, Numbers). -/
def roundHalfUp (num : Int) (den : Nat) : Int := (2 * num + den) / (2 * den)

/-- A value limited to a range at both ends (R1). -/
def clamp (low high v : Int) : Int := max low (min high v)

/-! ### Fields of a payload: most significant byte first, two's complement where signed (R183) -/

/-- The 16-bit field of two bytes, unsigned. -/
def read2 (b1 b0 : Byte) : Nat := b1.toNat * 256 + b0.toNat

/-- The 24-bit field of three bytes, unsigned. -/
def read3 (b2 b1 b0 : Byte) : Nat := b2.toNat * 65536 + b1.toNat * 256 + b0.toNat

/-- The 16-bit field of two bytes, signed. -/
def readSigned2 (b1 b0 : Byte) : Int := (b1 ++ b0 : BitVec 16).toInt

/-- A value in one byte. -/
def put1 (v : Int) : List Byte := [BitVec.ofInt 8 v]

/-- A value in two bytes. -/
def put2 (v : Int) : List Byte :=
  let w := BitVec.ofInt 16 v
  [w.extractLsb' 8 8, w.extractLsb' 0 8]

/-- A value in three bytes. -/
def put3 (v : Int) : List Byte :=
  let w := BitVec.ofInt 24 v
  [w.extractLsb' 16 8, w.extractLsb' 8 8, w.extractLsb' 0 8]

/-- A value in four bytes. -/
def put4 (v : Int) : List Byte :=
  let w := BitVec.ofInt 32 v
  [w.extractLsb' 24 8, w.extractLsb' 16 8, w.extractLsb' 8 8, w.extractLsb' 0 8]

/-- A flag in bit `i` of a flags byte. -/
def flagBit (i : Nat) (b : Bool) : Byte := if b then (1 : Byte) <<< i else 0

/-! ### The check value (R160) -/

/-- One bit of the CRC with generator polynomial 0x1021. -/
def crcBit (c : BitVec 16) (bit : Bool) : BitVec 16 :=
  if c.msb != bit then (c <<< 1) ^^^ 0x1021#16 else c <<< 1

/-- One byte of the CRC, most significant bit first. -/
def crcByte (c : BitVec 16) (b : Byte) : BitVec 16 :=
  [7, 6, 5, 4, 3, 2, 1, 0].foldl (fun c i => crcBit c (b.getLsbD i)) c

/-- The CRC of a run of bytes, from the initial value 0xFFFF, with no final inversion. -/
def crcOf (bytes : List Byte) : BitVec 16 := bytes.foldl crcByte 0xFFFF#16

/-- The bytes the check value covers, ADDRESS to the last payload byte. -/
def Frame.covered (f : Frame) : List Byte :=
  f.address :: f.kind :: BitVec.ofNat 8 f.payload.length :: f.payload

/-- The check value of a frame. -/
def Frame.crc (f : Frame) : BitVec 16 := crcOf f.covered

/-- How long a frame lasts on the line: (L + 5) symbols (R160). -/
def Frame.duration (f : Frame) : Nat := (f.payload.length + 5) * Config.symbolTime

end Sys2Proof.Machine
end

