-- ==== Sys2Proof/Machine/Updates.lean ====
section
/-! DEFINITION. The updates of a node, one for each block: every operation writes a block through these. -/

namespace Sys2Proof.Machine.Node

/-- The node with the configuration set replaced. -/
def withCfg (n : Node) (x : Settings) : Node := { n with cfg := x }

/-- The node with the Conversion Unit replaced. -/
def withCu (n : Node) (x : ConversionUnit) : Node := { n with cu := x }

/-- The node with the Scan Sequencer replaced. -/
def withSeq (n : Node) (x : Sequencer) : Node := { n with seq := x }

/-- The node with the Result Table replaced. -/
def withRt (n : Node) (x : List Record) : Node := { n with rt := x }

/-- The node with the Limit Monitor replaced. -/
def withLm (n : Node) (x : LimitMonitor) : Node := { n with lm := x }

/-- The node with the Fault Table replaced. -/
def withFt (n : Node) (x : FaultTable) : Node := { n with ft := x }

/-- The node with the Equalizer replaced. -/
def withEq (n : Node) (x : Equalizer) : Node := { n with eq := x }

/-- The node with the Maintenance Unit replaced. -/
def withMu (n : Node) (x : MaintenanceUnit) : Node := { n with mu := x }

/-- The node with the Link Interface replaced. -/
def withLi (n : Node) (x : LinkInterface) : Node := { n with li := x }

/-- The node with the Command Handler replaced. -/
def withCh (n : Node) (x : CommandHandler) : Node := { n with ch := x }

/-- The node with the Settings Store replaced. -/
def withSs (n : Node) (x : SettingsStore) : Node := { n with ss := x }

/-- The node with the Power Controller replaced. -/
def withPc (n : Node) (x : PowerController) : Node := { n with pc := x }

/-- The node with the moment replaced. -/
def withNow (n : Node) (x : Nat) : Node := { n with now := x }

end Sys2Proof.Machine.Node
end

