-- ==== Sys2Proof/Machine/Clock.lean ====
section
/-! DEFINITION. Time. Every timer of the spec is held as the moment of its expiry. An expiry is an event of its own
(a row), and the clock never passes one that is armed and has not been taken (log entry 4). -/

namespace Sys2Proof.Machine

/-- The lane receivers run from the first moment of start-up; they are stopped while the node is held in a
break reset, and without supply (R161). -/
def PowerController.receiving (p : PowerController) : Bool :=
  match p.phase with
  | .loading _ => true
  | .complete => true
  | .unpowered => false
  | .breakDrive _ => false
  | .breakWait => false

/-- The receiver is inside a frame: the states in which the gap timer runs (R162). -/
def Receiver.inFrame : Receiver → Bool
  | .hunt => false
  | .header _ _ => true
  | .payload _ _ _ _ => true
  | .crc _ _ _ _ => true

/-- R162: the expiry of the gap timer, inside a frame. -/
def LaneState.gapExpiry (l : LaneState) : Option Nat :=
  if l.rx.inFrame then some (l.lastEnd + Config.gapTime) else none

/-- The latest moment at which the next symbol of a frame can have ended: its start bit came within the gap
(R162), and the symbol lasts 11 µs (R159). A clock past the gap's expiry means that the start bit came (log entry 33). -/
def LaneState.latest (l : LaneState) : Option Nat :=
  if l.rx.inFrame then some (l.lastEnd + Config.gapTime + Config.symbolTime) else none

/-- The timer of the Conversion Unit (R4, R6, R8). -/
def CuState.expiry : CuState → Option Nat
  | .off => none
  | .powering t => some t
  | .idle => none
  | .converting c => some c.endsAt
  | .recovering t => some t

/-- The due time is watched in PASS_GAP (R34). -/
def Sequencer.armedDue (q : Sequencer) : Option Nat := if q.st = .passGap then q.due else none

/-- The grant time of a request that is WAITING (R130). -/
def QuietReq.waitingUntil (r : QuietReq) : Option Nat := if r.granted then none else some r.grantAt

/-- The settle timer of INJECT_SETTLE (R148). -/
def MuState.expiry : MuState → Option Nat
  | .injectSettle t => some t
  | .idle => none
  | .leaseWait => none
  | .quietWait => none
  | .trimTrial => none
  | .spanOff => none
  | .spanOn => none

/-- The timer of the start-up phase: the break drive (R170) or the settings load (R191). -/
def Phase.expiry : Phase → Option Nat
  | .breakDrive t => some t
  | .loading t => some t
  | .unpowered => none
  | .breakWait => none
  | .complete => none

/-- The pending set is not empty (R181). -/
def AlertReasons.any (r : AlertReasons) : Bool := r.faultNew || r.eqFinished || r.watchWake

/-- The number of reasons in the pending set, 0 to 3 (R178). -/
def AlertReasons.size (r : AlertReasons) : Nat := r.faultNew.toNat + r.eqFinished.toNat + r.watchWake.toNat

namespace Node

/-- The conditions of a due ALERT other than the holdoff (R181). -/
def alertWanted (n : Node) : Bool :=
  n.ch.reasons.any && n.cfg.alertEnable && n.li.address != 0 && n.pc.power == .active

/-- The moment the holdoff ends, when an ALERT has been queued since the last reset (R181). -/
def holdoffEnd (n : Node) : Option Nat :=
  n.ch.lastAlert.map fun t => t + n.cfg.alertHoldoff * Config.holdoffUnit

/-- R181: an ALERT is due. -/
def alertDue (n : Node) : Bool :=
  n.alertWanted && (match n.holdoffEnd with
    | none => true
    | some t => decide (t ≤ n.now))

/-- The expiry of the alert holdoff that will make an ALERT due (R181). -/
def alertExpiry (n : Node) : Option Nat :=
  if n.alertWanted && !n.alertDue then n.holdoffEnd else none

/-- The expiries that are armed. -/
def deadlines (n : Node) : List Nat :=
  n.cu.st.expiry.toList ++ n.seq.armedDue.toList
    ++ (n.eq.quiet.seq.bind QuietReq.waitingUntil).toList
    ++ (n.eq.quiet.mu.bind QuietReq.waitingUntil).toList
    ++ (n.eq.quiet.watch.bind QuietReq.waitingUntil).toList
    ++ n.eq.slotEnd.toList ++ n.mu.st.expiry.toList ++ n.li.silence.toList
    ++ (n.ss.saving.map Saving.endsAt).toList ++ n.pc.watchTimer.toList ++ n.pc.phase.expiry.toList
    ++ n.li.txN.toList ++ (n.li.txS.map SouthTx.endsAt).toList ++ n.alertExpiry.toList
    ++ n.li.laneRxS.latest.toList ++ n.li.laneRxN.latest.toList
    ++ n.li.laneTxS.latest.toList ++ n.li.laneTxN.latest.toList

/-- The moment at which an event from outside falls, `dt` after the last event, or at the earliest armed expiry
if that is sooner (log entry 4). -/
def elapse (dt : Nat) (n : Node) : Node :=
  n.withNow (max n.now (n.deadlines.foldl min (n.now + dt)))

/-- The node at the expiry `t` of a timer of its own, when the clock has not passed it and no other armed expiry is
earlier. -/
def reach (t : Nat) (n : Node) : Option Node :=
  if n.now ≤ t ∧ n.deadlines.all (fun d => decide (t ≤ d)) then some (n.withNow t) else none

end Node

end Sys2Proof.Machine
end

