-- ==== Sys2Proof/Machine/Flags.lean ====
section
/-! DEFINITION. Codes of enumerated fields (R183), the numbers of sources and ranges (Introduction), and the
conditions other blocks read: limit states, ACTIVE entries, holds and inhibits (R73, R115, R119). -/

namespace Sys2Proof.Machine

/-! ### Sources and ranges (Introduction) -/

/-- A code of CELL1 to CELL14. -/
def isCell (src : Nat) : Bool := decide (1 ≤ src) && decide (src ≤ 14)

/-- A code of AUX1 to AUX4. -/
def isAux (src : Nat) : Bool := decide (15 ≤ src) && decide (src ≤ 18)

/-- The code of STACK. -/
def srcStack : Nat := 19
/-- The code of DIETEMP. -/
def srcDie : Nat := 20
/-- The code of REFCHK. -/
def srcRef : Nat := 21

/-- A source code of the list, 1 to 21. -/
def isSource (src : Nat) : Bool := decide (1 ≤ src) && decide (src ≤ 21)

/-- The bottom of a source's range. -/
def sourceLow (src : Nat) : Int := if src = 20 then -400 else 0

/-- The top of a source's range. -/
def sourceHigh (src : Nat) : Int :=
  if isAux src then 65535 else if src = 19 then 40000 else if src = 20 then 1500 else 50000

/-- The converter range that serves a source. -/
def rangeOf (src : Nat) : Range :=
  if isAux src then .aux else if src = 19 ∨ src = 20 then .stack else .cell

/-- The code of a range in the trim table (R9). -/
def TrimTable.get (t : TrimTable) : Range → TrimCode
  | .cell => t.cell
  | .aux => t.aux
  | .stack => t.stack

/-- The trim table with one code written (R9). -/
def TrimTable.set (t : TrimTable) (r : Range) (c : TrimCode) : TrimTable :=
  match r with
  | .cell => { t with cell := c }
  | .aux => { t with aux := c }
  | .stack => { t with stack := c }

/-- The number of a range (Introduction). -/
def Range.number : Range → Nat
  | .cell => 1
  | .aux => 2
  | .stack => 3

/-- How long a conversion of each kind lasts (01, 1.1). -/
def ConvKind.duration : ConvKind → Nat
  | .fast => 20
  | .normal => 80
  | .fine => 320

/-! ### Codes (R183) -/

/-- Reply status (R183). -/
inductive Status where
  | ok | unknownKind | badLength | invalid | busy | notAllowed | notFound | stale | stillActive | aborted
  | alreadyAssigned | noPlan
  deriving DecidableEq, Repr

/-- Status codes. -/
def Status.code : Status → Byte
  | .ok => 0
  | .unknownKind => 1
  | .badLength => 2
  | .invalid => 3
  | .busy => 4
  | .notAllowed => 5
  | .notFound => 6
  | .stale => 7
  | .stillActive => 8
  | .aborted => 9
  | .alreadyAssigned => 10
  | .noPlan => 11

/-- Sequencer state codes. -/
def SeqState.code : SeqState → Nat
  | .stopped => 0
  | .waitingCu => 1
  | .quietWait => 2
  | .converting => 3
  | .passGap => 4
  | .deferred => 5

/-- Equalizer state codes. -/
def EqState.code : EqState → Nat
  | .idle => 0
  | .running => 1
  | .safeStop => 2
  | .disabled => 3

/-- Power state codes. -/
def PowerState.code : PowerState → Nat
  | .starting => 0
  | .active => 1
  | .standby => 2

/-- Reset cause codes. -/
def ResetCause.code : ResetCause → Nat
  | .powerOn => 0
  | .break_ => 1
  | .soft => 2

/-- Mode codes. -/
def Mode.code : Mode → Nat
  | .single => 0
  | .continuous => 1

/-- The mode of a code. -/
def Mode.ofCode : Nat → Option Mode
  | 0 => some .single
  | 1 => some .continuous
  | _ => none

/-- Conversion kind codes. -/
def ConvKind.code : ConvKind → Nat
  | .fast => 0
  | .normal => 1
  | .fine => 2

/-- The conversion kind of a code. -/
def ConvKind.ofCode : Nat → Option ConvKind
  | 0 => some .fast
  | 1 => some .normal
  | 2 => some .fine
  | _ => none

/-- The code of a sample count: 0 to 4 for 1, 2, 4, 8, 16. -/
def samplesCode (s : Nat) : Nat :=
  if s ≤ 1 then 0 else if s ≤ 2 then 1 else if s ≤ 4 then 2 else if s ≤ 8 then 3 else 4

/-- The sample count of a code. -/
def samplesOfCode : Nat → Option Nat
  | 0 => some 1
  | 1 => some 2
  | 2 => some 4
  | 3 => some 8
  | 4 => some 16
  | _ => none

/-- Limit state codes. -/
def LimitState.code : LimitState → Nat
  | .normal => 0
  | .high => 1
  | .low => 2

/-- Auxiliary role codes (R184). -/
def AuxRole.code : AuxRole → Nat
  | .general => 0
  | .heatIfLow => 1
  | .heatIfHigh => 2

/-- The role of a code. -/
def AuxRole.ofCode : Nat → Option AuxRole
  | 0 => some .general
  | 1 => some .heatIfLow
  | 2 => some .heatIfHigh
  | _ => none

/-- Fault kind codes (R79). -/
def FaultKind.code : FaultKind → Nat
  | .cellHigh => 1
  | .cellLow => 2
  | .auxHigh => 3
  | .auxLow => 4
  | .stackHigh => 5
  | .stackLow => 6
  | .dieHot => 7
  | .dieCold => 8
  | .refFault => 9
  | .sumMismatch => 10
  | .lineOpen => 11
  | .trimRail => 12
  | .linkSilent => 13
  | .storeInvalid => 14

/-- The fault kind of a code, 1 to 14. -/
def FaultKind.ofCode : Nat → Option FaultKind
  | 1 => some .cellHigh
  | 2 => some .cellLow
  | 3 => some .auxHigh
  | 4 => some .auxLow
  | 5 => some .stackHigh
  | 6 => some .stackLow
  | 7 => some .dieHot
  | 8 => some .dieCold
  | 9 => some .refFault
  | 10 => some .sumMismatch
  | 11 => some .lineOpen
  | 12 => some .trimRail
  | 13 => some .linkSilent
  | 14 => some .storeInvalid
  | _ => none

/-- The fault kind a source's HIGH raises (R68). -/
def highKind (src : Nat) : FaultKind :=
  if src ≤ 14 then .cellHigh else if src ≤ 18 then .auxHigh else if src = 19 then .stackHigh
  else if src = 20 then .dieHot else .refFault

/-- The fault kind a source's LOW raises (R68). -/
def lowKind (src : Nat) : FaultKind :=
  if src ≤ 14 then .cellLow else if src ≤ 18 then .auxLow else if src = 19 then .stackLow
  else if src = 20 then .dieCold else .refFault

/-! ### Looking things up -/

/-- The record of a source. -/
def findRecord (rt : List Record) (src : Nat) : Option Written :=
  (rt.find? fun r => r.source == src).bind Record.content

/-- The limit record of a source. -/
def LimitMonitor.find (m : LimitMonitor) (src : Nat) : Option LimitRec :=
  m.recs.find? fun r => r.source == src

/-- The limit state of a source. -/
def LimitMonitor.state (m : LimitMonitor) (src : Nat) : LimitState :=
  match m.find src with
  | none => .normal
  | some r => r.st

/-- The entry of a pair (R80). -/
def FaultTable.find (t : FaultTable) (k : FaultKind) (src : Nat) : Option FaultEntry :=
  t.entries.find? fun e => e.kind == k && e.source == src

/-- The table holds an ACTIVE entry of the pair. -/
def FaultTable.isActive (t : FaultTable) (k : FaultKind) (src : Nat) : Bool :=
  t.entries.any fun e => e.kind == k && e.source == src && e.active

/-- The table holds an ACTIVE entry of the kind. -/
def FaultTable.anyActive (t : FaultTable) (k : FaultKind) : Bool :=
  t.entries.any fun e => e.kind == k && e.active

/-- The number of ACTIVE entries (R83). -/
def FaultTable.activeCount (t : FaultTable) : Nat := t.entries.countP fun e => e.active

/-- The role of AUX `j` (R72). -/
def Settings.role (c : Settings) (j : Nat) : AuxRole :=
  match j with
  | 1 => c.role1
  | 2 => c.role2
  | 3 => c.role3
  | 4 => c.role4
  | _ => .general

/-- The configuration set with the role of AUX `j` replaced (R72). -/
def Settings.setRole (c : Settings) (j : Nat) (r : AuxRole) : Settings :=
  match j with
  | 1 => { c with role1 := r }
  | 2 => { c with role2 := r }
  | 3 => { c with role3 := r }
  | 4 => { c with role4 := r }
  | _ => c

/-- Report list `j` (R51). -/
def Settings.list (c : Settings) (j : Nat) : List Nat :=
  match j with
  | 0 => c.list0
  | 1 => c.list1
  | 2 => c.list2
  | 3 => c.list3
  | _ => []

/-- The configuration set with report list `j` replaced (R51). -/
def Settings.setList (c : Settings) (j : Nat) (l : List Nat) : Settings :=
  match j with
  | 0 => { c with list0 := l }
  | 1 => { c with list1 := l }
  | 2 => { c with list2 := l }
  | 3 => { c with list3 := l }
  | _ => c

/-- The lane of a name. -/
def LinkInterface.lane (l : LinkInterface) : Lane → LaneState
  | .rxS => l.laneRxS
  | .rxN => l.laneRxN
  | .txS => l.laneTxS
  | .txN => l.laneTxN

/-- The Link Interface with one lane replaced. -/
def LinkInterface.setLane (l : LinkInterface) (k : Lane) (x : LaneState) : LinkInterface :=
  match k with
  | .rxS => { l with laneRxS := x }
  | .rxN => { l with laneRxN := x }
  | .txS => { l with laneTxS := x }
  | .txN => { l with laneTxN := x }

/-- The request in a requester's place (R126). -/
def QuietList.get (q : QuietList) : Client → Option QuietReq
  | .seq => q.seq
  | .mu => q.mu
  | .watch => q.watch

/-- The list with a requester's place replaced. -/
def QuietList.set (q : QuietList) (c : Client) (r : Option QuietReq) : QuietList :=
  match c with
  | .seq => { q with seq := r }
  | .mu => { q with mu := r }
  | .watch => { q with watch := r }

/-- Channel `k` is in the set of the request, if there is one. -/
def heldBy (r : Option QuietReq) (k : Nat) : Bool :=
  match r with
  | none => false
  | some q => q.set.contains k

/-- R115, R126: a channel is held while it belongs to the set of a request in the list. -/
def QuietList.holds (q : QuietList) (k : Nat) : Bool := heldBy q.seq k || heldBy q.mu k || heldBy q.watch k

/-! ### Windows and inhibits -/

/-- R100: slot `slot` lies in the window of channel `num` with active duty `duty`. -/
def inWindow (num duty slot : Nat) : Bool :=
  if num % 2 = 1 then decide (slot < duty)
  else decide (32 ≤ slot) && decide (slot < 32 + duty)

namespace Node

/-- R72: the auxiliary input `j` says the module is too hot to bleed. -/
def auxHeat (n : Node) (j : Nat) : Bool :=
  match n.cfg.role j with
  | .general => false
  | .heatIfLow => n.lm.state (14 + j) == .low
  | .heatIfHigh => n.lm.state (14 + j) == .high

/-- R73: a condition that inhibits all channels holds. -/
def inhibitsAll (n : Node) : Bool :=
  n.lm.state srcDie == .high || n.auxHeat 1 || n.auxHeat 2 || n.auxHeat 3 || n.auxHeat 4
    || n.ft.isActive .sumMismatch 0 || n.ft.isActive .refFault 21

/-- R73: an ACTIVE LINE_OPEN for a line next to cell `k`. -/
def lineInhibits (n : Node) (k : Nat) : Bool :=
  n.ft.entries.any fun e => e.kind == .lineOpen && e.active && (e.source == k || e.source + 1 == k)

/-- R73: channel `k` is inhibited. The set holds only channels within 1 to the population (R116). -/
def inhibited (n : Node) (k : Nat) : Bool :=
  decide (1 ≤ k) && decide (k ≤ n.cfg.population)
    && (n.inhibitsAll || n.lm.state k == .low || n.lineInhibits k)

/-- R102: every condition for a closed switch holds for the channel in slot `slot`. -/
def mayClose (n : Node) (slot : Nat) (c : Channel) : Bool :=
  n.eq.st == .running && inWindow c.num c.duty slot && decide (0 < c.budget)
    && !n.eq.quiet.holds c.num && !n.inhibited c.num

/-- R119: the status of a channel, the first that applies. The codes are those of R183. A channel above the population
that a WATCH request still holds is QUIET (R126, R131 against the end of R119; log entry 35). -/
def channelStatus (n : Node) (c : Channel) : Nat :=
  if n.inhibited c.num then 3
  else if n.eq.quiet.holds c.num then 2
  else if c.closed then 1
  else if 0 < c.budget then 4
  else 0

end Node

/-- R96: some remaining budget is above 0. -/
def Equalizer.owes (e : Equalizer) : Bool := e.channels.any fun c => decide (0 < c.budget)

/-- R2, R190: some channel has staged values. -/
def Equalizer.hasStaged (e : Equalizer) : Bool := e.channels.any fun c => c.staged.isSome

/-- R140, R141: a maintenance operation is in flight. -/
def MaintenanceUnit.inFlight (m : MaintenanceUnit) : Bool := m.st != .idle

/-- The done mask as a channel mask: channel `k` in bit `k − 1` (R121, R183). -/
def Equalizer.doneMask (e : Equalizer) : Nat :=
  e.channels.foldl (fun m c => if c.done then m + 2 ^ (c.num - 1) else m) 0

/-- Channels 1 to `n` (R128). -/
def channelsTo (n : Nat) : List Nat := List.range' 1 n

/-- R27, R128: the quiet set of a plan step at population `n`. -/
def stepQuietSet (src n : Nat) : List Nat :=
  if isCell src then [src - 1, src, src + 1].filter fun k => decide (1 ≤ k) && decide (k ≤ n)
  else channelsTo n

end Sys2Proof.Machine
end

