-- ==== Sys2Proof/Machine/Operands.lean ====
section
/-! DEFINITION. Reading the operands of a command from its payload, and writing the data of a reply: every byte
layout of R183, R184 and R185. -/

namespace Sys2Proof.Machine

/-! ### Commands (R184) -/

/-- The tag of a command frame; 0 when it has none (R175). -/
def Frame.tag (f : Frame) : Byte := f.payload.headD 0

/-- The payload after the tag. -/
def Frame.body (f : Frame) : List Byte := f.payload.tail

/-- A command frame came by broadcast (R163, R169). -/
def Frame.isBroadcast (f : Frame) : Bool := f.address == 63

/-- The kinds of the table of kinds in 10.3, less ALERT, which is no command (R175). -/
def commandKinds : List Byte :=
  [0x01, 0x02, 0x03, 0x04, 0x05, 0x10, 0x11, 0x12, 0x13, 0x14, 0x15, 0x20, 0x21, 0x22, 0x23, 0x24, 0x30, 0x31,
    0x32, 0x40, 0x41, 0x42, 0x50, 0x51, 0x52, 0x53, 0x60, 0x61, 0x62, 0x70]

/-- An options or flags byte with no bit set at or above bit `k` (R183). -/
def onlyBitsBelow (k : Nat) (b : Byte) : Bool := decide (b.toNat < 2 ^ k)

/-- The sources a source mask names: bit `c` names code `c` (R183). -/
def sourcesOfMask (mask : Nat) : List Nat := (List.range 24).filter fun c => mask.testBit c

/-- A plan step from its two bytes (R184), if they hold codes of R183 and a source 1 to 21. -/
def readStep (b0 b1 : Byte) : Option Step :=
  if b1.toNat < 64 ∧ isSource b0.toNat then
    match samplesOfCode (b1.toNat % 8), ConvKind.ofCode (b1.toNat / 8 % 4) with
    | some s, some k => some { source := b0.toNat, samples := s, kind := k, quiet := b1.getLsbD 5 }
    | _, _ => none
  else none

/-- The steps of a plan; none if one of them does not read (R19). -/
def readSteps : List Byte → Option (List Step)
  | [] => some []
  | b0 :: b1 :: rest =>
    match readStep b0 b1, readSteps rest with
    | some s, some l => some (s :: l)
    | _, _ => none
  | [_] => none

/-- R19: a step the sequencer accepts at population `n`. -/
def Step.allowed (s : Step) (n : Nat) : Bool :=
  (!s.quiet || isCell s.source || s.source == srcStack)
    && (!isCell s.source || decide (s.source ≤ n))

/-- An entry of EQ_SET (R108). -/
structure EqEntry where
  channel : Nat
  duty : Nat
  budget : Nat
  deriving DecidableEq, Repr

/-- The entries of EQ_SET, five bytes each (R184). -/
def readEqEntries : List Byte → List EqEntry
  | c :: d :: b2 :: b1 :: b0 :: rest =>
    { channel := c.toNat, duty := d.toNat, budget := read3 b2 b1 b0 } :: readEqEntries rest
  | _ => []

/-- A range mask: CELL in bit 0, AUX in bit 1, STACK in bit 2 (R183). -/
def readRangeMask (b : Byte) : RangeSet where
  cell := b.getLsbD 0
  aux := b.getLsbD 1
  stack := b.getLsbD 2

/-- A limit field read for a source: signed for DIETEMP, unsigned for every other (R61, R183). -/
def readLimit (src : Nat) (b1 b0 : Byte) : Int :=
  if src = 20 then readSigned2 b1 b0 else read2 b1 b0

/-! ### Replies (R185) -/

/-- The first byte of a plan step is its source, the second holds samples, kind and quiet (R184). -/
def Step.bytes (s : Step) : List Byte :=
  put1 s.source ++ put1 (samplesCode s.samples + 8 * s.kind.code + 32 * s.quiet.toNat)

/-- A plan in the form of PLAN_WRITE after the tag. -/
def Plan.bytes (p : Plan) : List Byte :=
  put1 p.mode.code ++ put2 p.interval ++ put1 p.steps.length ++ p.steps.flatMap Step.bytes

/-- A reply record (R49, R185), ordinary or with detail. -/
def replyRecord (detail : Bool) (src : Nat) (w : Option Written) : List Byte :=
  match w with
  | none => put1 src ++ List.replicate (if detail then 13 else 7) 0
  | some w =>
    put1 src
      ++ [flagBit 0 true ||| flagBit 1 w.fresh ||| flagBit 2 (w.origin == .watch)
            ||| flagBit 3 w.spread.isSome ||| flagBit 4 w.extrema.isSome]
      ++ put2 w.value ++ put2 w.pass ++ put2 (w.spread.getD 0)
      ++ (if detail then
            put1 w.epoch.toNat ++ put1 (samplesCode w.samples)
              ++ (match w.extrema with
                | none => put2 0 ++ put2 0
                | some x => put2 x.least ++ put2 x.greatest)
          else [])

/-- A fault entry (R185). -/
def FaultEntry.bytes (e : FaultEntry) : List Byte :=
  put1 e.kind.code ++ put1 e.source ++ [flagBit 0 (!e.active) ||| flagBit 1 e.value.isSome] ++ put1 e.count
    ++ put2 e.first ++ put2 e.last ++ put4 (e.value.getD 0)

/-- A channel record (R185) with the status of R119. -/
def Channel.bytes (c : Channel) (status : Nat) : List Byte :=
  put1 c.num ++ put1 c.duty ++ put3 c.budget ++ put1 (status + 8 * c.staged.isSome.toNat)
    ++ (match c.staged with
      | none => put1 0 ++ put3 0
      | some s => put1 s.duty ++ put3 s.budget)
    ++ put4 c.lifetime.toNat

/-- Limits in the form of LIMIT_WRITE: flags, upper, lower, persistence (R185). -/
def LimitCfg.bytes (l : LimitCfg) : List Byte :=
  [flagBit 0 l.upper.isSome ||| flagBit 1 l.lower.isSome] ++ put2 (l.upper.getD 0) ++ put2 (l.lower.getD 0)
    ++ put1 l.p

/-- The seven counters of a lane in the order of R173. -/
def LaneCounters.bytes (c : LaneCounters) : List Byte :=
  put2 c.framing ++ put2 c.crc ++ put2 c.length ++ put2 c.timeout ++ put2 c.truncated ++ put2 c.noise
    ++ put2 c.forwardDrop

/-- A trim code as a signed byte, 0 when absent (R183, R185). -/
def codeByte (c : Option TrimCode) : Byte :=
  match c with
  | none => 0
  | some c => c.signExtend 8

/-- The data of a TRIM reply: the mask of the committed ranges and three codes (R185). -/
def Committed.bytes (c : Committed) : List Byte :=
  [flagBit 0 c.cell.isSome ||| flagBit 1 c.aux.isSome ||| flagBit 2 c.stack.isSome, codeByte c.cell,
    codeByte c.aux, codeByte c.stack]

/-- The pending reasons as a byte (R183). -/
def AlertReasons.byte (r : AlertReasons) : Byte :=
  flagBit 0 r.faultNew ||| flagBit 1 r.eqFinished ||| flagBit 2 r.watchWake

/-- The value field of a configuration item, in the form of the write (R184, R187); the list number of a
REPORT_LIST is `sub`. -/
def Settings.itemBytes (c : Settings) (item sub : Nat) : List Byte :=
  match item with
  | 1 => put1 c.population
  | 2 => put1 c.role1.code
  | 3 => put1 c.role2.code
  | 4 => put1 c.role3.code
  | 5 => put1 c.role4.code
  | 6 => put2 c.sumTol
  | 7 => put1 c.quietSettle
  | 8 => put2 c.eqFrame
  | 9 => put1 c.silenceTimeout
  | 10 => put1 c.alertEnable.toNat
  | 11 => put1 c.alertHoldoff
  | 12 => put2 c.watchInterval
  | 13 => put2 c.lineThreshold
  | 14 => put1 c.autostart.toNat
  | 15 => put1 sub ++ (c.list sub).flatMap fun s => put1 s
  | _ => []

end Sys2Proof.Machine
end

