-- ==== Sys2Proof/Machine/Ops.lean ====
section
/-! DEFINITION. The operations the blocks share: fault raises and clears, alert reasons, result writes and their
judgement, switches and quiet requests, conversion requests and injection. -/

namespace Sys2Proof.Machine

/-! ### Fault Table (R81, R82, R84) -/

namespace FaultTable

/-- The entry of the pair is changed by `f`; every other entry and every position stays (R80). -/
def modify (t : FaultTable) (k : FaultKind) (src : Nat) (f : FaultEntry → FaultEntry) : FaultTable :=
  { t with entries := t.entries.map fun e => if e.kind == k && e.source == src then f e else e }

/-- The oldest CLEARED entry is removed (R84). -/
def dropOldestCleared : List FaultEntry → List FaultEntry
  | [] => []
  | e :: rest => if e.active then e :: dropOldestCleared rest else rest

/-- Room for one entry: a full table loses its oldest CLEARED entry and the eviction counter rises (R84). -/
def makeRoom (t : FaultTable) : FaultTable :=
  if t.entries.length < Config.faultCap then t
  else if t.entries.any fun e => !e.active then
    { entries := dropOldestCleared t.entries, evictions := satInc Config.faultCountMax t.evictions }
  else t

/-- A new entry at the end of the list (R81). A full table always holds a CLEARED entry (05, 5.4), so room is
always found; were it not, the table would stay as it is (log entry 18). -/
def create (t : FaultTable) (e : FaultEntry) : FaultTable :=
  let t := t.makeRoom
  if t.entries.length < Config.faultCap then { t with entries := t.entries ++ [e] } else t

/-- R81: a raise. -/
def raise (t : FaultTable) (k : FaultKind) (src pass : Nat) (value : Option Int) : FaultTable :=
  match t.find k src with
  | none =>
    t.create { kind := k, source := src, active := true, count := 1, first := pass, last := pass, value := value }
  | some _ =>
    t.modify k src fun e =>
      { e with
        active := true
        count := if e.active then e.count else satInc Config.faultCountMax e.count
        last := pass
        value := value }

/-- R81: the raise creates an entry or returns one to ACTIVE. -/
def isNews (t : FaultTable) (k : FaultKind) (src : Nat) : Bool := !t.isActive k src

/-- R82: a clear. -/
def clear (t : FaultTable) (k : FaultKind) (src : Nat) : FaultTable :=
  t.modify k src fun e => { e with active := false }

end FaultTable

namespace Node

/-- R181, R182: a reason joins the pending set, or is discarded while ALERT_ENABLE is off. -/
def addReason (f : AlertReasons → AlertReasons) (n : Node) : Node :=
  if n.cfg.alertEnable then n.withCh { n.ch with reasons := f n.ch.reasons } else n

/-- R83, R194: a creation or a return to ACTIVE hands on FAULT_NEW and sets the watch-raise mark of a watch pass
in progress. -/
def noteNews (n : Node) : Node :=
  let n := n.addReason fun r => { r with faultNew := true }
  if n.pc.watchPass.isSome then n.withPc { n.pc with watchRaise := true } else n

/-- R81: a raise, with what it hands to the neighbours of the table. -/
def raiseFault (k : FaultKind) (src pass : Nat) (value : Option Int) (n : Node) : Node :=
  let m := n.withFt (n.ft.raise k src pass value)
  if n.ft.isNews k src then m.noteNews else m

/-- R82: a clear. -/
def clearFault (k : FaultKind) (src : Nat) (n : Node) : Node := n.withFt (n.ft.clear k src)

end Node

/-! ### Limit Monitor (04, 4.2) -/

/-- What a judgement hands to the Fault Table (R65 to R67). -/
inductive Verdict where
  | nothing | raiseHigh | raiseLow | clearHigh | clearLow
  deriving DecidableEq, Repr

/-- R64: the value is over. -/
def LimitCfg.isOver (c : LimitCfg) (v : Int) : Bool :=
  match c.upper with
  | none => false
  | some u => decide (u < v)

/-- R64: the value is under. -/
def LimitCfg.isUnder (c : LimitCfg) (v : Int) : Bool :=
  match c.lower with
  | none => false
  | some l => decide (v < l)

namespace LimitRec

/-- R65: a result judged in NORMAL. -/
def judgeNormal (r : LimitRec) (v : Int) : LimitRec × Verdict :=
  if r.cfg.isOver v then
    if r.cfg.p ≤ r.overCount + 1 then
      ({ r with st := .high, overCount := 0, underCount := 0, releaseCount := 0 }, .raiseHigh)
    else ({ r with overCount := r.overCount + 1, underCount := 0 }, .nothing)
  else if r.cfg.isUnder v then
    if r.cfg.p ≤ r.underCount + 1 then
      ({ r with st := .low, overCount := 0, underCount := 0, releaseCount := 0 }, .raiseLow)
    else ({ r with underCount := r.underCount + 1, overCount := 0 }, .nothing)
  else ({ r with overCount := 0, underCount := 0 }, .nothing)

/-- R66, R67: a result judged in HIGH or LOW; `stays` says it is still on that side. -/
def judgeOut (r : LimitRec) (stays : Bool) (again gone : Verdict) : LimitRec × Verdict :=
  if stays then ({ r with releaseCount := 0 }, again)
  else if r.cfg.p ≤ r.releaseCount + 1 then
    ({ r with st := .normal, overCount := 0, underCount := 0, releaseCount := 0 }, gone)
  else ({ r with releaseCount := r.releaseCount + 1 }, .nothing)

/-- R65 to R67: a result judged. -/
def judge (r : LimitRec) (v : Int) : LimitRec × Verdict :=
  match r.st with
  | .normal => r.judgeNormal v
  | .high => r.judgeOut (r.cfg.isOver v) .raiseHigh .clearHigh
  | .low => r.judgeOut (r.cfg.isUnder v) .raiseLow .clearLow

/-- R62: every count becomes 0. -/
def zeroCounts (r : LimitRec) : LimitRec := { r with overCount := 0, underCount := 0, releaseCount := 0 }

end LimitRec

/-- The limit records with the one of a source changed. -/
def LimitMonitor.modify (m : LimitMonitor) (src : Nat) (f : LimitRec → LimitRec) : LimitMonitor :=
  { m with recs := m.recs.map fun r => if r.source == src then f r else r }

/-- R69: every pass start empties the set of sources written and discards the population-change mark. -/
def LimitMonitor.passStart (m : LimitMonitor) : LimitMonitor :=
  { m with passSources := [], popMark := false }

/-- R69: a write adds its source to the set. -/
def LimitMonitor.note (m : LimitMonitor) (src : Nat) : LimitMonitor :=
  if m.passSources.contains src then m else { m with passSources := src :: m.passSources }

namespace Node

/-- R68: what a judgement hands on, applied at the same event. -/
def applyVerdict (src pass : Nat) (v : Int) (d : Verdict) (n : Node) : Node :=
  match d with
  | .nothing => n
  | .raiseHigh => n.raiseFault (highKind src) src pass (some v)
  | .raiseLow => n.raiseFault (lowKind src) src pass (some v)
  | .clearHigh => n.clearFault (highKind src) src
  | .clearLow => n.clearFault (lowKind src) src

/-- R64: the Limit Monitor judges a written value. -/
def judge (src pass : Nat) (v : Int) (n : Node) : Node :=
  match n.lm.find src with
  | none => n
  | some r =>
    (n.withLm (n.lm.modify src fun r => (r.judge v).1)).applyVerdict src pass v (r.judge v).2

end Node

/-! ### Result Table (R45, R46) -/

/-- R46: the extrema after a write. -/
def Extrema.update (x : Option Extrema) (v : Int) : Extrema :=
  match x with
  | none => { least := v, greatest := v }
  | some x => { least := min x.least v, greatest := max x.greatest v }

/-- A result as a client hands it to the table (R45). -/
structure ResultWrite where
  source : Nat
  value : Int
  samples : Nat
  spread : Option Nat
  origin : Origin
  pass : Nat
  deriving DecidableEq, Repr

/-- R45, parts 1 to 4: the record after a write under epoch `epoch`. -/
def Record.write (r : Record) (w : ResultWrite) (epoch : BitVec 8) : Record :=
  { r with
    content := some {
      value := w.value
      fresh := true
      origin := w.origin
      epoch := epoch
      pass := w.pass
      samples := w.samples
      spread := if 1 < w.samples then w.spread else none
      extrema := some (Extrema.update (r.content.bind Written.extrema) w.value) } }

/-- The records with the one of a source changed. -/
def modifyRecord (rt : List Record) (src : Nat) (f : Record → Record) : List Record :=
  rt.map fun r => if r.source == src then f r else r

/-- A WRITTEN record's content changed; an EMPTY record stays EMPTY. -/
def Record.mapWritten (r : Record) (f : Written → Written) : Record := { r with content := r.content.map f }

namespace Node

/-- R45: a write to the Result Table, its note in the Limit Monitor's set (R69) and its judgement. -/
def writeResult (w : ResultWrite) (n : Node) : Node :=
  let n := n.withRt (modifyRecord n.rt w.source fun r => r.write w n.seq.epoch)
  let n := n.withLm (n.lm.note w.source)
  n.judge w.source w.pass w.value

/-- The value of a record; 0 when it is EMPTY, which R69 rules out where it is read. -/
def recordValue (n : Node) (src : Nat) : Int :=
  match findRecord n.rt src with
  | none => 0
  | some w => w.value

/-- R70: the absolute difference between the sum of the cells and twenty times STACK. -/
def sumDifference (n : Node) : Nat :=
  (((channelsTo n.cfg.population).map fun k => n.recordValue k).sum - 20 * n.recordValue srcStack).natAbs

/-- R69: every record the check needs was written during the pass, and no population change was taken. -/
def passComplete (n : Node) : Bool :=
  !n.lm.popMark && n.lm.passSources.contains srcStack
    && (channelsTo n.cfg.population).all fun k => n.lm.passSources.contains k

/-- R69, R70: the plausibility check at the end of the pass `pass`. -/
def plausibility (pass : Nat) (n : Node) : Node :=
  if n.passComplete then
    if n.cfg.sumTol < n.sumDifference then n.raiseFault .sumMismatch 0 pass (some n.sumDifference)
    else n.clearFault .sumMismatch 0
  else n

end Node

/-! ### Switches (06, 6.4) -/

namespace Channel

/-- R104: the switch opens at the moment `t`; an open switch keeps its open-since. `kept` says the slot that
ends at this very moment still counts (R105; log entry 10). -/
def openAt (t : Nat) (kept : Bool) (c : Channel) : Channel :=
  if c.closed then { c with closed := false, openSince := t, kept := kept } else c

/-- R104, R112, R117: the switch opens and the slot in progress counts nothing. -/
def cut (t : Nat) (c : Channel) : Channel := { c.openAt t false with kept := false }

end Channel

namespace Equalizer

/-- Every channel changed by `f`. -/
def mapChannels (e : Equalizer) (f : Channel → Channel) : Equalizer := { e with channels := e.channels.map f }

/-- The moment `t` is the very end of the current slot. -/
def atSlotEnd (e : Equalizer) (t : Nat) : Bool := e.slotEnd == some t

/-- R104: every closed switch opens at the moment `t`, and its slot counts nothing. -/
def cutAll (t : Nat) (e : Equalizer) : Equalizer := e.mapChannels (Channel.cut t)

/-- The latest open-since of the channels of a set (R129). -/
def latestOpen (e : Equalizer) (set : List Nat) : Nat :=
  e.channels.foldl (fun t c => if set.contains c.num then max t c.openSince else t) 0

end Equalizer

namespace Node

/-- R104: every closed switch for which a condition for staying closed fails opens at once: its window, budget
and the Equalizer's state, a hold, an inhibit (R102, R115, R116). -/
def enforceOpen (n : Node) : Node :=
  n.withEq (n.eq.mapChannels fun c =>
    if n.mayClose n.eq.slot c then c else c.openAt n.now (n.eq.atSlotEnd n.now))

/-! ### Quiet requests (07) -/

/-- R129: the request in the list, with its channels opened and its grant time fixed. It is granted at once when
the grant time is not later than the request. -/
def quietRequest (who : Client) (set : List Nat) (n : Node) : Node :=
  let q := n.cfg.quietSettle * Config.quietUnit
  let e := n.eq.mapChannels fun c =>
    if set.contains c.num then c.openAt n.now (n.eq.atSlotEnd n.now) else c
  let t := max n.now (e.latestOpen set + q)
  n.withEq { e with
    quiet := e.quiet.set who (some { set := set, settle := q, grantAt := t, granted := decide (t ≤ n.now) }) }

/-- R130: the request of `who` is GRANTED. -/
def quietGranted (who : Client) (n : Node) : Bool :=
  match n.eq.quiet.get who with
  | none => false
  | some r => r.granted

/-- R133: the request of `who` leaves the list. -/
def quietRelease (who : Client) (n : Node) : Node :=
  n.withEq { n.eq with quiet := n.eq.quiet.set who none }

/-! ### Conversions and injection (01) -/

/-- R5, R9: what a conversion reads when it starts. -/
def startConversion (r : ConvRequest) (n : Node) : Node :=
  let trim := match r with
    | .source code _ => n.cu.trim.get (rangeOf code)
    | .zeroInput _ code _ => code
    | .lineSpan _ _ _ => n.cu.trim.cell
  let kind := match r with
    | .source _ k => k
    | .zeroInput _ _ k => k
    | .lineSpan _ _ k => k
  n.withCu { n.cu with
    st := .converting {
      request := r
      trim := trim
      population := n.cfg.population
      injection := n.cu.injection
      endsAt := n.now + kind.duration }
    request := none }

/-- R12: a line span outside 0 ≤ a ≤ b ≤ n is not taken. -/
def requestTaken (r : ConvRequest) (n : Node) : Bool :=
  match r with
  | .lineSpan a b _ => decide (a ≤ b) && decide (b ≤ n.cfg.population)
  | .source _ _ => true
  | .zeroInput _ _ _ => true

/-- R5: a conversion request of client `c`. -/
def convRequest (c : Client) (r : ConvRequest) (n : Node) : Node :=
  if n.cu.holder = some c ∧ n.requestTaken r then
    match n.cu.st with
    | .off => n
    | .idle => n.startConversion r
    | .powering _ => n.withCu { n.cu with request := some r }
    | .recovering _ => n.withCu { n.cu with request := some r }
    | .converting _ => n.withCu { n.cu with request := some r }
  else n

/-- R13: an injection order of client `c`. -/
def orderInjection (c : Client) (i : Injection) (n : Node) : Node :=
  if n.cu.holder = some c then
    match n.cu.st with
    | .off => n
    | .converting _ => n.withCu { n.cu with heldInjection := some i }
    | .idle => n.withCu { n.cu with injection := i }
    | .powering _ => n.withCu { n.cu with injection := i }
    | .recovering _ => n.withCu { n.cu with injection := i }
  else n

/-- R4: a power-up order. -/
def powerUp (n : Node) : Node :=
  if n.cu.st = .off then n.withCu { n.cu with st := .powering (n.now + Config.cuSettleTime) } else n

/-- R4: a power-down order. -/
def powerDown (n : Node) : Node :=
  n.withCu { n.cu with
    st := .off
    holder := none
    waiting := []
    request := none
    injection := .off
    heldInjection := none }

/-- R5, R8: the pending conversion request starts on entry to IDLE. -/
def startPending (n : Node) : Node :=
  match n.cu.st, n.cu.request with
  | .idle, some r => n.startConversion r
  | _, _ => n

/-! ### Link silence (R171) -/

/-- R171: a restart of the link silence timer clears LINK_SILENT and starts the timer, or leaves it stopped when
SILENCE_TIMEOUT is 0. -/
def silenceRestart (n : Node) : Node :=
  let n := n.clearFault .linkSilent 0
  n.withLi { n.li with
    silence := if n.cfg.silenceTimeout = 0 then none
      else some (n.now + n.cfg.silenceTimeout * Config.silenceUnit) }

end Node

/-- R1, R11, R12: the value a completed conversion delivers, from the converter's reading without trim in
thousandths of the unit delivered (log entries 6 and 7). -/
def Conversion.sample (c : Conversion) (reading : Int) : Int :=
  let v := roundHalfUp (reading + 1000 * c.trim.toInt) 1000
  match c.request with
  | .source src _ => clamp (sourceLow src) (sourceHigh src) v
  | .zeroInput _ _ _ => clamp (-2048) 2047 v
  | .lineSpan _ _ _ => clamp 0 1000000 v

end Sys2Proof.Machine
end

