-- ==== Sys2Proof/Machine/Replies.lean ====
section
/-! DEFINITION. Forming replies and alerts, the order in which frames claim a place in the reply queue (R177), the
two transmitters (R166, R167), and the end every event has. -/

namespace Sys2Proof.Machine

/-- R175: the KIND of the reply to a command. -/
def replyKind (kind : Byte) : Byte := if kind.toNat < 128 then kind + 0x80 else 0xFF

namespace Node

/-- The node's own address as origin (R175). -/
def origin (n : Node) : Byte := BitVec.ofNat 8 n.li.address

/-- R175: a reply frame. -/
def replyFrame (n : Node) (kind tag : Byte) (st : Status) (data : List Byte) : Frame :=
  { address := n.origin, kind := replyKind kind, payload := tag :: st.code :: data }

/-- R175, R176: the reply to a command taken enters the reply queue; one taken from a broadcast frame forms none
(R169). -/
def answer (f : Frame) (st : Status) (data : List Byte) (n : Node) : Node :=
  if f.isBroadcast then n
  else n.withCh { n.ch with replyQueue := n.ch.replyQueue ++ [n.replyFrame f.kind f.tag st data] }

/-- The reply queue has a free place. -/
def replyFree (n : Node) : Bool := decide (n.ch.replyQueue.length < Config.replyQueueCap)

/-- R153, R177: a completion reply enters the reply queue, or waits at the end of the pending reply list. -/
def completionReply (owner : ReplyOwner) (f : Frame) (n : Node) : Node :=
  if n.replyFree && n.ch.pendingReplies.isEmpty then
    n.withCh { n.ch with replyQueue := n.ch.replyQueue ++ [f] }
  else n.withCh { n.ch with pendingReplies := n.ch.pendingReplies ++ [{ owner := owner, frame := f }] }

/-- R177: the oldest pending completion replies take the free places. -/
def fillReplies (n : Node) : Node :=
  let free := Config.replyQueueCap - n.ch.replyQueue.length
  n.withCh { n.ch with
    replyQueue := n.ch.replyQueue ++ (n.ch.pendingReplies.take free).map PendingReply.frame
    pendingReplies := n.ch.pendingReplies.drop free }

/-- R181: the ALERT as it stands. -/
def alertFrame (n : Node) : Frame :=
  { address := n.origin
    kind := 0xF0
    payload := n.ch.reasons.byte :: (put1 n.ft.activeCount ++ put1 n.eq.st.code ++ put1 n.seq.st.code) }

/-- R181: a due ALERT enters the reply queue when it has a place. -/
def queueAlert (n : Node) : Node :=
  if n.alertDue && n.replyFree && n.ch.pendingReplies.isEmpty then
    n.withCh { n.ch with
      replyQueue := n.ch.replyQueue ++ [n.alertFrame]
      reasons := AlertReasons.none
      lastAlert := some n.now }
  else n

/-- R167: the source the southbound arbiter chooses. -/
def chooseSender (n : Node) : Option Sender :=
  match n.ch.replyQueue, n.li.south with
  | [], [] => none
  | _ :: _, [] => some .reply
  | [], _ :: _ => some .forward
  | _ :: _, _ :: _ => some (match n.li.lastSender with
    | .reply => .forward
    | .forward => .reply)

/-- The frame at the front of a source of TX_S. -/
def senderFront (n : Node) : Sender → Option Frame
  | .reply => n.ch.replyQueue.head?
  | .forward => n.li.south.head?

/-- R167: when TX_S is free the arbiter starts a transmission. -/
def startTxS (n : Node) : Node :=
  match n.li.txS, n.chooseSender with
  | none, some who =>
    match n.senderFront who with
    | none => n
    | some f =>
      n.withLi { n.li with txS := some { sender := who, endsAt := n.now + f.duration }, lastSender := who }
  | _, _ => n

/-- R166: when TX_N is free the front frame of the north forward buffer is sent. -/
def startTxN (n : Node) : Node :=
  match n.li.txN, n.li.north with
  | none, f :: _ => n.withLi { n.li with txN := some (n.now + f.duration) }
  | _, _ => n

/-- What stands at the end of every event (log entry 9): switches that may not stay closed are open (R104),
pending replies and then a due ALERT have taken the free places (R177), free transmitters have begun (R166,
R167). -/
def finish (n : Node) : Node := n.enforceOpen.fillReplies.queueAlert.startTxS.startTxN

end Node

end Sys2Proof.Machine
end

