-- ==== Sys2Proof/Machine/Lease.lean ====
section
/-! DEFINITION. The three clients of the converter and the lease between them: the sequencer's pass (02), the
maintenance operations (08), the watch pass (11), and how the lease is asked for, granted and released (R14,
R15). The order of the definitions is the order in which one can bring about the next inside one event. -/

namespace Sys2Proof.Machine

namespace Node

/-! ### The sequencer's step (R27, R28) -/

/-- The step of the active plan at position `i`, from 1. -/
def planStep (n : Node) (i : Nat) : Option Step :=
  match n.seq.active with
  | none => none
  | some p => if i = 0 then none else p.steps[i - 1]?

/-- R27, R28: CONVERTING, with the step's first conversion requested. -/
def seqConvert (s : Step) (n : Node) : Node :=
  (n.withSeq { n.seq with st := .converting, acc := none }).convRequest .seq (.source s.source s.kind)

/-- R27: the sequencer begins the step at position `i`. -/
def seqBeginStep (i : Nat) (n : Node) : Node :=
  match n.planStep i with
  | none => n
  | some s =>
    let n := n.withSeq { n.seq with stepIndex := some i }
    if s.quiet then
      let n := n.withSeq { n.seq with st := .quietWait }
      let n := n.quietRequest .seq (stepQuietSet s.source n.cfg.population)
      if n.quietGranted .seq then n.seqConvert s else n
    else n.seqConvert s

/-! ### The maintenance unit's conversions (R145, R148) -/

/-- The operation record with its fields replaced. -/
def withOp (b : OpBody) (n : Node) : Node :=
  n.withMu { n.mu with op := n.mu.op.map fun o => { o with body := b } }

/-- R145: a trial: the current bit of `u` is set and a FINE zero-input conversion requested. -/
def trimTrial (t : TrimOp) (n : Node) : Node :=
  let u := t.u ||| ((1 : BitVec 6) <<< t.bit)
  let n := n.withMu { n.mu with st := .trimTrial }
  (n.withOp (.trim { t with u := u })).convRequest .mu (.zeroInput t.range (u - 32) .fine)

/-- R145: the trials of a range begin with u = 0 and bit 5. -/
def trimRange (t : TrimOp) (r : Range) (n : Node) : Node := n.trimTrial { t with range := r, u := 0, bit := 5 }

/-- R148, part 1: the test of a span begins with a NORMAL line-span conversion with injection OFF. -/
def testSpan (l : LineOp) (round : RoundKind) (a b : Nat) (n : Node) : Node :=
  let n := n.withMu { n.mu with st := .spanOff }
  (n.withOp (.line { l with round := round, a := a, b := b })).convRequest .mu (.lineSpan a b .normal)

end Node

/-- R145: the first selected range, in the order CELL, AUX, STACK. -/
def RangeSet.first (s : RangeSet) : Option Range :=
  if s.cell then some .cell else if s.aux then some .aux else if s.stack then some .stack else none

/-- R145: the selected range after `r`. -/
def RangeSet.after (s : RangeSet) : Range → Option Range
  | .cell => if s.aux then some .aux else if s.stack then some .stack else none
  | .aux => if s.stack then some .stack else none
  | .stack => none

/-- R141: a committed code recorded. -/
def Committed.set (c : Committed) (r : Range) (code : TrimCode) : Committed :=
  match r with
  | .cell => { c with cell := some code }
  | .aux => { c with aux := some code }
  | .stack => { c with stack := some code }

namespace Node

/-- R142: the operation begins its first conversion at its quiet grant (R145, R149). -/
def muStart (n : Node) : Node :=
  match n.mu.op with
  | none => n
  | some o =>
    match o.body with
    | .trim t =>
      match t.selected.first with
      | none => n
      | some r => n.trimRange t r
    | .line l => n.testSpan { l with lo := 0, hi := l.n } .first 0 l.n

/-- R142: at the grant of the lease the MU makes its quiet request. -/
def muBegin (n : Node) : Node :=
  let n := n.withMu { n.mu with st := .quietWait }
  let n := n.quietRequest .mu (channelsTo n.cfg.population)
  if n.quietGranted .mu then n.muStart else n

/-! ### The watch pass's steps (R194) -/

end Node

/-- R194: the steps of a watch pass of `n` cells, in order. -/
def watchOrder (n : Nat) : List Nat := channelsTo n ++ [19, 20, 15, 16, 17, 18, 21]

/-- The part of a list after the first occurrence of `x`. -/
def afterFirst (x : Nat) : List Nat → List Nat
  | [] => []
  | y :: rest => if y = x then rest else afterFirst x rest

namespace Node

/-- R194: a step is passed over when its cell lies above the population in force or its auxiliary input is
GENERAL. -/
def watchRuns (n : Node) (src : Nat) : Bool :=
  if isCell src then decide (src ≤ n.cfg.population)
  else if isAux src then n.cfg.role (src - 14) != .general
  else true

/-- R194: the watch pass begins the first of `steps` that is not passed over: one FAST conversion. -/
def watchStep (steps : List Nat) (n : Node) : Node :=
  match n.pc.watchPass, steps.find? n.watchRuns with
  | some w, some src =>
    (n.withPc { n.pc with watchPass := some { w with stage := .converting src } }).convRequest .watch
      (.source src .fast)
  | _, _ => n

/-- R194: the steps begin at the quiet grant. -/
def watchStart (n : Node) : Node :=
  match n.pc.watchPass with
  | none => n
  | some w => n.watchStep (watchOrder w.n)

/-- R194: at the grant of the lease the watch pass makes its quiet request. -/
def watchBegin (n : Node) : Node :=
  match n.pc.watchPass with
  | none => n
  | some w =>
    let n := n.withPc { n.pc with watchPass := some { w with stage := .quietWait } }
    let n := n.quietRequest .watch (channelsTo n.cfg.population)
    if n.quietGranted .watch then n.watchStart else n

/-! ### The lease (R14, R15) -/

/-- R14: the lease is granted to client `c`, which acts on it at once. -/
def grantLease (c : Client) (n : Node) : Node :=
  let n := n.withCu { n.cu with holder := some c, waiting := n.cu.waiting.filter fun d => d != c }
  match c with
  | .seq => n.seqBeginStep 1
  | .mu => n.muBegin
  | .watch => n.watchBegin

/-- R14: the CU can grant a free lease at once. -/
def leaseReady (n : Node) : Bool :=
  match n.cu.st with
  | .idle => true
  | .recovering _ => true
  | .off => false
  | .powering _ => false
  | .converting _ => false

/-- R4, R8, R15: the waiting client is granted the free lease when the CU is IDLE or RECOVERING. -/
def grantWaiting (n : Node) : Node :=
  match n.cu.holder, n.cu.waiting with
  | none, c :: _ => if n.leaseReady then n.grantLease c else n
  | _, _ => n

/-- R14: client `c` asks for the lease. -/
def leaseRequest (c : Client) (n : Node) : Node :=
  if n.cu.holder = some c ∨ n.cu.waiting.contains c then n
  else if n.cu.holder = none ∧ n.leaseReady then n.grantLease c
  else n.withCu { n.cu with waiting := n.cu.waiting ++ [c] }

/-- R14: a waiting client withdraws its request. -/
def leaseWithdraw (c : Client) (n : Node) : Node :=
  n.withCu { n.cu with waiting := n.cu.waiting.filter fun d => d != c }

/-- R15: the part of a release before the grant: the lease becomes free, the pending request and a held order are
discarded, injection is off, and a conversion in progress is aborted (R7). -/
def dropLease (n : Node) : Node :=
  n.withCu { n.cu with
    st := match n.cu.st with
      | .converting _ => .recovering (n.now + Config.cuRecoveryTime)
      | .off => .off
      | .powering t => .powering t
      | .idle => .idle
      | .recovering t => .recovering t
    holder := none
    request := none
    injection := .off
    heldInjection := none }

/-- R15: client `c` releases the lease. -/
def leaseRelease (c : Client) (n : Node) : Node :=
  if n.cu.holder = some c then n.dropLease.grantWaiting else n

/-! ### Activation, pass start, pass end (R22, R24, R31, R32) -/

/-- R22: activation. -/
def activate (n : Node) : Node :=
  let n := n.withSeq { n.seq with
    active := match n.seq.staged with
      | some p => some p
      | none => n.seq.active
    staged := none
    epoch := n.seq.epoch + 1
    passDone := false }
  n.withRt (n.rt.map fun r => r.mapWritten fun w => { w with fresh := false })

/-- R24, R25, R194: the pass counter advances, from 65,535 to 1. -/
def advancePass (n : Node) : Node :=
  n.withSeq { n.seq with
    passCounter := if n.seq.passCounter < Config.passMax then n.seq.passCounter + 1 else 1 }

/-- R22: a pass start of a CONTINUOUS plan is an activation when a staged plan is present. -/
def activatesAtPassStart (n : Node) : Bool :=
  match n.seq.active with
  | none => false
  | some p => p.mode == .continuous && n.seq.staged.isSome

/-- R24, part 3: the due time of the next pass. -/
def nextDue (n : Node) : Option Nat :=
  match n.seq.active with
  | none => none
  | some p =>
    match p.mode with
    | .single => none
    | .continuous => some (n.now + p.interval * Config.intervalUnit)

/-- R24: a pass start. -/
def passStart (activation : Bool) (n : Node) : Node :=
  let n := if activation || n.activatesAtPassStart then n.activate else n
  let n := n.advancePass
  let n := n.withLm n.lm.passStart
  let n := n.withSeq { n.seq with
    st := .waitingCu
    stepIndex := none
    acc := none
    passStart := some n.now
    due := n.nextDue }
  n.leaseRequest .seq

/-- R32, R35: the late count increases, saturating. -/
def countLate (n : Node) : Node := n.withSeq { n.seq with late := satInc Config.lateMax n.seq.late }

/-- R31 to R33: how the sequencer continues after a pass end. -/
def afterPass (n : Node) : Node :=
  match n.seq.active with
  | none => n.withSeq { n.seq with st := .stopped, due := none }
  | some p =>
    match p.mode with
    | .single => n.withSeq { n.seq with st := .stopped, due := none }
    | .continuous =>
      if p.interval = 0 then n.passStart false
      else
        match n.seq.due with
        | none => n.passStart false
        | some d =>
          if n.now < d then n.withSeq { n.seq with st := .passGap }
          else if n.now = d then n.passStart false
          else n.countLate.passStart false

/-- R31: a pass end. -/
def passEnd (n : Node) : Node :=
  let n := n.withSeq { n.seq with passDone := true }
  let n := n.plausibility n.seq.passCounter
  let n := n.leaseRelease .seq
  let n := n.withSeq { n.seq with stepIndex := none, acc := none }
  n.afterPass

/-- R35: the late count increases when the plan whose pass starts is CONTINUOUS with an interval other than 0
(log entry 11). -/
def deferredIsLate (n : Node) : Bool :=
  match n.seq.active with
  | none => false
  | some p => p.mode == .continuous && p.interval != 0

/-- R35, R153: at the end of a maintenance operation the deferred pass starts. -/
def startDeferred (n : Node) : Node :=
  if n.seq.st = .deferred then
    let n := n.passStart false
    if n.deferredIsLate then n.countLate else n
  else n

/-! ### A sample reaches the sequencer (R28 to R30) -/

end Node

/-- R28: a sample joins the accumulation. -/
def Accum.add (a : Option Accum) (v : Int) : Accum :=
  match a with
  | none => { sum := v, least := v, greatest := v, count := 1 }
  | some a => { sum := a.sum + v, least := min a.least v, greatest := max a.greatest v, count := a.count + 1 }

/-- R29: the value of a step's result. -/
def Accum.average (a : Accum) : Int := roundHalfUp a.sum a.count

/-- R29: the spread of a step's result, present when more than one sample was taken. -/
def Accum.spread (a : Accum) : Option Nat := if 1 < a.count then some (a.greatest - a.least).toNat else none

namespace Node

/-- R29, R30: the step at position `i` ends: its result is written, its quiet request released, and the next
step begins or the pass ends. -/
def seqStepEnd (i : Nat) (s : Step) (a : Accum) (n : Node) : Node :=
  let n := n.withSeq { n.seq with acc := none }
  let n := n.writeResult {
    source := s.source
    value := a.average
    samples := s.samples
    spread := a.spread
    origin := .plan
    pass := n.seq.passCounter }
  let n := if s.quiet then n.quietRelease .seq else n
  if (n.planStep (i + 1)).isSome then n.seqBeginStep (i + 1) else n.passEnd

/-- R28: a sample delivered to the sequencer; outside CONVERTING it is discarded. One delivered at the moment of the
sequencer's own stop, and taken first, counts (R37 against the end of R7; log entry 34). -/
def seqSample (v : Int) (n : Node) : Node :=
  if n.seq.st = .converting then
    match n.seq.stepIndex with
    | none => n
    | some i =>
      match n.planStep i with
      | none => n
      | some s =>
        let a := Accum.add n.seq.acc v
        if a.count < s.samples then
          (n.withSeq { n.seq with acc := some a }).convRequest .seq (.source s.source s.kind)
        else n.seqStepEnd i s a
  else n

/-- R37: the sequencer is stopped. -/
def seqStop (n : Node) : Node :=
  let m := n.withSeq { n.seq with st := .stopped, stepIndex := none, acc := none, due := none }
  match n.seq.st with
  | .stopped => n
  | .waitingCu => m.leaseWithdraw .seq
  | .quietWait => (m.quietRelease .seq).leaseRelease .seq
  | .converting => (m.quietRelease .seq).leaseRelease .seq
  | .passGap => m
  | .deferred => m

/-! ### The maintenance unit's readings and its end (R145 to R154) -/

/-- R153: the end of an operation: quiet and lease are released, the reply is formed unless the operation came by
broadcast (R169), the record is discarded, and a deferred pass starts. -/
def endOperation (kind : Byte) (st : Status) (data : List Byte) (n : Node) : Node :=
  match n.mu.op with
  | none => n
  | some o =>
    let n := (n.quietRelease .mu).leaseRelease .mu
    let n := if o.broadcast then n
      else n.completionReply .maintenance (n.replyFrame kind o.tag st data)
    let n := n.withMu { st := .idle, op := none }
    n.startDeferred

/-- R146, R91: the rail outcome of a committed code. -/
def railOutcome (r : Range) (u : BitVec 6) (n : Node) : Node :=
  if u = 0 ∨ u = 63 then n.raiseFault .trimRail r.number n.seq.passCounter none
  else n.clearFault .trimRail r.number

/-- R146, R147: the commit of the range in progress, and then the next range or the end. -/
def trimCommit (t : TrimOp) (n : Node) : Node :=
  let code : TrimCode := t.u - 32
  let t := { t with committed := t.committed.set t.range code }
  let n := n.withCu { n.cu with trim := n.cu.trim.set t.range code }
  let n := n.withOp (.trim t)
  let n := n.railOutcome t.range t.u
  match t.selected.after t.range with
  | some r => n.trimRange t r
  | none => n.endOperation 0x60 .ok t.committed.bytes

/-- R145: a trial's reading. -/
def trimReading (t : TrimOp) (v : Int) (n : Node) : Node :=
  let t := if 0 < v then { t with u := t.u &&& ~~~((1 : BitVec 6) <<< t.bit) } else t
  if 0 < t.bit then n.trimTrial { t with bit := t.bit - 1 } else n.trimCommit t

/-- R90: every ACTIVE LINE_OPEN entry for a line other than `keep` is cleared. -/
def clearLines (keep : Option Nat) (n : Node) : Node :=
  n.withFt { n.ft with
    entries := n.ft.entries.map fun e =>
      if e.kind == .lineOpen && keep != some e.source then { e with active := false } else e }

/-- R152: the end of a line check with its result: NONE, OPEN(L) or INCONCLUSIVE. -/
def lineEnd (l : LineOp) (result : Nat) (n : Node) : Node :=
  let n := match result with
    | 0 => n.clearLines none
    | 1 => (n.clearLines (some l.lo)).raiseFault .lineOpen l.lo n.seq.passCounter none
    | _ => n
  n.endOperation 0x61 .ok (put1 result ++ put1 (if result = 1 then l.lo else 0) ++ put1 l.rounds)

/-- R150, R151: the next round of the search: the lower half, or the confirm round when one line is left. -/
def lineSearch (l : LineOp) (n : Node) : Node :=
  if l.lo < l.hi then n.testSpan l .search l.lo ((l.lo + l.hi) / 2) else n.testSpan l .confirm l.lo l.lo

/-- R148, part 4, and R149 to R151: the span is judged. -/
def lineJudge (l : LineOp) (on off : Int) (n : Node) : Node :=
  let deviates := decide (l.threshold < (on - off).natAbs)
  let l := { l with rounds := l.rounds + 1, offReading := none }
  let n := n.withOp (.line l)
  match l.round with
  | .first => if deviates then n.lineSearch l else n.lineEnd l 0
  | .search => n.lineSearch (if deviates then { l with hi := l.b } else { l with lo := l.b + 1 })
  | .confirm => n.lineEnd l (if deviates then 1 else 2)

/-- R145, R148: a reading delivered to the maintenance unit; outside a conversion of its own it is discarded. One
delivered at the moment of its MAINT_ABORT, and taken first, counts (R155 against the end of R7; log entry 34). -/
def muReading (v : Int) (n : Node) : Node :=
  match n.mu.op with
  | none => n
  | some o =>
    match n.mu.st, o.body with
    | .trimTrial, .trim t => n.trimReading t v
    | .spanOff, .line l =>
      let n := n.withOp (.line { l with offReading := some v })
      let n := n.orderInjection .mu (.on l.a l.b)
      n.withMu { n.mu with st := .injectSettle (n.now + Config.injectSettleTime) }
    | .spanOn, .line l => (n.orderInjection .mu .off).lineJudge l v (l.offReading.getD 0)
    | _, _ => n

end Node

end Sys2Proof.Machine
end

