-- ==== Sys2Proof/Machine/SlotTimer.lean ====
section
/-! DEFINITION. The frame timer of the Equalizer: the four parts of a slot boundary (R101), the restart at slot 0
(R97), and the states it enters and leaves with the node's power state (R122, R123). -/

namespace Sys2Proof.Machine

/-- R97: the length of a slot in microseconds, one sixty-fourth of the frame. -/
def slotLength (frameMs : Nat) : Nat := frameMs * 1000 / 64

/-- R101: the slot that begins when `slot` ends. -/
def nextSlot (slot : Nat) : Nat := (slot + 1) % 64

namespace Channel

/-- R105: the channel was closed throughout the slot that ends (its budget is then above 0). -/
def counts (c : Channel) : Bool := (c.closed || c.kept) && decide (0 < c.budget)

/-- R105: a counted channel. -/
def counted (c : Channel) : Channel :=
  if c.counts then { c with budget := c.budget - 1, lifetime := c.lifetime + 1 } else c

/-- R106: counting takes the budget to 0. -/
def completes (c : Channel) : Bool := c.counts && c.budget == 1

/-- R101, part 1, for one channel at the boundary at the moment `t` into slot `next`: it is counted, joins the
done mask on completion, and opens when its window ends or its budget has reached 0. -/
def endSlot (t next : Nat) (c : Channel) : Channel :=
  let d := { c.counted with done := c.done || c.completes, kept := false }
  if inWindow d.num d.duty next && decide (0 < d.budget) then d else d.openAt t false

/-- R110: staged values become active. -/
def applyStaged (c : Channel) : Channel :=
  match c.staged with
  | none => c
  | some s => { c with duty := s.duty, budget := s.budget, staged := none }

end Channel

namespace Equalizer

/-- R110: the state after staged values have been applied. -/
def adjusted (e : Equalizer) : EqState :=
  match e.st with
  | .idle => if e.owes then .running else .idle
  | .running => if e.owes then .running else .idle
  | .safeStop => .safeStop
  | .disabled => .disabled

/-- R110: part 3 of a frame boundary. -/
def stagedApplied (e : Equalizer) : Equalizer :=
  let e := e.mapChannels Channel.applyStaged
  { e with st := e.adjusted }

end Equalizer

namespace Node

/-- R101, part 1: the end of the slot that finishes; R107: the completions that leave every budget 0 in RUNNING
take the Equalizer to IDLE and hand on EQ_FINISHED, once. -/
def endSlot (n : Node) : Node :=
  let finished := n.eq.st == .running && n.eq.channels.any Channel.completes
  let e := n.eq.mapChannels (Channel.endSlot n.now (nextSlot n.eq.slot))
  if finished && !e.owes then
    (n.withEq { e with st := .idle }).addReason fun r => { r with eqFinished := true }
  else n.withEq e

/-- R98: part 2 of a frame boundary. -/
def takeFrameLength (n : Node) : Node := n.withEq { n.eq with frameMs := n.cfg.eqFrame }

/-- R102: part 4 of a slot boundary, for the slot that begins. -/
def closeSwitches (n : Node) : Node :=
  n.withEq (n.eq.mapChannels fun c => if n.mayClose n.eq.slot c then { c with closed := true } else c)

/-- R101: the slot `slot` begins at the moment `t`. -/
def beginSlot (slot t : Nat) (n : Node) : Node :=
  (n.withEq { n.eq with slot := slot, slotEnd := some (t + slotLength n.eq.frameMs) }).closeSwitches

/-- R97: a start or restart of the timer at slot 0 is a frame boundary with no counting; `st` gives the state
once staged values are applied. -/
def restartFrame (st : Equalizer → EqState) (n : Node) : Node :=
  let n := n.takeFrameLength
  let e := n.eq.mapChannels fun c => { c.applyStaged with kept := false }
  (n.withEq { e with st := st e }).beginSlot 0 n.now

/-- R101: a slot boundary; the slot that ends is the one that ends at the moment `t`. -/
def slotBoundary (t : Nat) (n : Node) : Node :=
  let next := nextSlot n.eq.slot
  let n := n.endSlot
  let n := if next = 0 then
      let n := n.takeFrameLength
      n.withEq n.eq.stagedApplied
    else n
  n.beginSlot next t

/-- R117: link silence expiry opens every switch and enters SAFE_STOP from IDLE or RUNNING. -/
def safeStop (n : Node) : Node :=
  match n.eq.st with
  | .idle => n.withEq { n.eq.cutAll n.now with st := .safeStop }
  | .running => n.withEq { n.eq.cutAll n.now with st := .safeStop }
  | .safeStop => n
  | .disabled => n

/-- R122: standby entry. The current slot is abandoned; the number it had stays in the field, where nothing reads it until
the wake sets it to 0 (log entry 30). -/
def eqDisable (n : Node) : Node :=
  n.withEq { n.eq.cutAll n.now with st := .disabled, slotEnd := none, preStandby := some n.eq.st }

/-- R123: the Equalizer leaves DISABLED by a frame wake, or by a watch wake into SAFE_STOP. -/
def eqWake (watchWake : Bool) (n : Node) : Node :=
  if n.eq.st = .disabled then
    let safe := watchWake || n.eq.preStandby == some .safeStop
    let n := n.restartFrame fun e => if safe then .safeStop else if e.owes then .running else .idle
    n.withEq { n.eq with preStandby := none }
  else n

/-! ### Standby and wake (R192, R193) -/

/-- R193: a frame wake. -/
def frameWake (n : Node) : Node :=
  let n := n.withPc { n.pc with power := .active, watchTimer := none }
  (n.powerUp.eqWake false).silenceRestart

/-- R192: the watch timer is started, or not when WATCH_INTERVAL is 0. -/
def startWatchTimer (n : Node) : Node :=
  n.withPc { n.pc with
    watchTimer := if n.cfg.watchInterval = 0 then none
      else some (n.now + n.cfg.watchInterval * Config.watchUnit) }

/-- R192: the node enters standby; frames that wait behind the STANDBY wake it at the same event. -/
def enterStandby (n : Node) : Node :=
  let n := n.seqStop.eqDisable.powerDown
  let n := n.withLi { n.li with silence := none }
  let n := (n.withPc { n.pc with power := .standby }).startWatchTimer
  if n.ch.cmdQueue.isEmpty then n else n.frameWake

/-! ### The watch pass (R194, R195) -/

/-- R194: the watch timer expires and a watch pass starts. -/
def watchPassStart (n : Node) : Node :=
  let n := n.advancePass
  let n := n.withLm n.lm.passStart
  let n := n.withPc { n.pc with
    watchTimer := none
    watchRaise := false
    watchPass := some { n := n.cfg.population, pass := n.seq.passCounter, stage := .leaseWait } }
  n.powerUp.leaseRequest .watch

/-- R195: what the Power Controller decides at the end of a watch pass. -/
def watchDecide (n : Node) : Node :=
  match n.pc.power with
  | .standby =>
    if n.pc.watchRaise then
      let n := n.withPc { n.pc with power := .active }
      let n := n.addReason fun r => { r with watchWake := true }
      (n.eqWake true).silenceRestart
    else n.powerDown.startWatchTimer
  | .active => n
  | .starting => n

/-- R195: the end of a watch pass, after its last result has been written and judged. -/
def watchPassEnd (pass : Nat) (n : Node) : Node :=
  let n := n.plausibility pass
  let n := (n.quietRelease .watch).leaseRelease .watch
  let n := n.withPc { n.pc with watchPass := none }
  n.watchDecide

/-- R194: the result of a watch step is written with the watch pass's own number, also when a plan pass has started since
(R45; log entry 28). -/
def watchWrite (w : WatchPass) (src : Nat) (v : Int) (n : Node) : Node :=
  n.writeResult {
    source := src
    value := v
    samples := 1
    spread := none
    origin := .watch
    pass := w.pass }

/-- R194: a sample delivered to the watch pass is written at once, and the next step begins. R56, R75, R77: no result is
written to a cell above the population, so the sample of a cell that a POPULATION write has put there meanwhile is
discarded (log entry 29). -/
def watchSample (v : Int) (n : Node) : Node :=
  match n.pc.watchPass with
  | none => n
  | some w =>
    match w.stage with
    | .leaseWait => n
    | .quietWait => n
    | .converting src =>
      let n := if isCell src && decide (n.cfg.population < src) then n else n.watchWrite w src v
      if src = srcRef then n.watchPassEnd w.pass
      else n.watchStep (afterFirst src (watchOrder w.n))

/-! ### Completion of a conversion (R6) -/

/-- R6: a sample or reading is delivered to the lease holder. -/
def deliver (v : Int) (n : Node) : Node :=
  match n.cu.holder with
  | none => n
  | some .seq => n.seqSample v
  | some .mu => n.muReading v
  | some .watch => n.watchSample v

/-- R6, R13: the CU enters IDLE, a held injection order takes effect, a pending request starts. -/
def conversionEnds (n : Node) : Node :=
  (n.withCu { n.cu with
    st := .idle
    injection := n.cu.heldInjection.getD n.cu.injection
    heldInjection := none }).startPending

/-- R4, R8: entry to IDLE when the settle or the recovery ends. -/
def enterIdle (n : Node) : Node :=
  (n.withCu { n.cu with st := .idle }).grantWaiting.startPending

end Node

end Sys2Proof.Machine
end

