-- ==== Sys2Proof/Machine/Link.lean ====
section
/-! DEFINITION. The Link Interface (09): what a lane receiver makes of a symbol, the counters, the decision for a good
frame, the buffers and the two transmitters' ends. -/

namespace Sys2Proof.Machine

/-- What a symbol is to a lane receiver (R161, R162): one of these, and each is a row of the table. -/
inductive SymbolEvent where
  /-- A non-mark byte in HUNT. -/
  | ignored
  /-- The byte begins or continues a frame. -/
  | taken (rx : Receiver)
  /-- The stop bit is taken low. -/
  | framing
  /-- A LENGTH byte above 96. -/
  | length
  /-- A mark byte inside a frame; it begins the new one. -/
  | truncated (rx : Receiver)
  /-- The low CRC byte, and the check fails. -/
  | badCrc
  /-- The low CRC byte of a good frame. -/
  | good (f : Frame)
  deriving DecidableEq, Repr

/-- R161: a non-mark byte. -/
def Receiver.takeByte (rx : Receiver) (b : Byte) : SymbolEvent :=
  match rx with
  | .hunt => .ignored
  | .header a none => .taken (.header a (some b))
  | .header a (some k) =>
    if Config.maxLength < b.toNat then .length
    else if b.toNat = 0 then .taken (.crc a k [] none)
    else .taken (.payload a k b.toNat [])
  | .payload a k len got =>
    if got.length + 1 < len then .taken (.payload a k len (got ++ [b])) else .taken (.crc a k (got ++ [b]) none)
  | .crc a k got none => .taken (.crc a k got (some b))
  | .crc a k got (some h) =>
    let f : Frame := { address := a, kind := k, payload := got }
    if f.crc = h ++ b then .good f else .badCrc

/-- R161, R162: a symbol. -/
def Receiver.take (rx : Receiver) (y : LineSymbol) : SymbolEvent :=
  if !y.stops then .framing
  else if y.marked then
    (if rx.inFrame then .truncated (.header y.byte none) else .taken (.header y.byte none))
  else rx.takeByte y.byte

/-- R159: the receiver takes a symbol that ends at the moment `t`: its start bit is low and came after the last symbol, and
after a framing error only once the line has been high for one full bit time. -/
def LaneState.hears (l : LaneState) (t : Nat) (y : LineSymbol) : Bool :=
  y.starts && (!l.waiting || y.afterHigh)
    && decide (l.lastEnd + (if l.waiting then Config.bitTime else 0) + Config.symbolTime ≤ t)

/-- A lane with its counters changed. -/
def LaneState.count (l : LaneState) (f : LaneCounters → LaneCounters) : LaneState :=
  { l with counters := f l.counters }

/-- A link counter increased by 1 (R173). -/
def linkInc (n : Nat) : Nat := satInc Config.linkCounterMax n

namespace Node

/-- One lane changed. -/
def modifyLane (k : Lane) (f : LaneState → LaneState) (n : Node) : Node :=
  n.withLi (n.li.setLane k (f (n.li.lane k)))

/-- R159, R162: what every symbol does: it counts as noise when its samples disagree, its end is where the gap timer
starts, and after a low stop bit the receiver waits for the line to be high. R170: on lane 0 it shows when RX_S was
high (log entry 32). -/
def noteSymbol (k : Lane) (y : LineSymbol) (n : Node) : Node :=
  let n := n.modifyLane k fun l =>
    { l with
      lastEnd := n.now
      waiting := !y.stops
      counters := if y.noisy then { l.counters with noise := linkInc l.counters.noise } else l.counters }
  if k = .rxS then n.withLi { n.li with rxSHigh := n.now - y.lowTail } else n

/-- The receiver of a lane is in state `rx`. -/
def setReceiver (k : Lane) (rx : Receiver) (n : Node) : Node := n.modifyLane k fun l => { l with rx := rx }

/-- A symbol arrives on lane `k`, `dt` after the last event. A row happens when the receivers run, the lane hears the
symbol, and it is to the receiver as it stands what the row says; `row` gives the row's effect. -/
def laneRow (dt : Nat) (k : Lane) (y : LineSymbol) (row : SymbolEvent → Option (Node → Node)) (n : Node) : Node :=
  let m := n.elapse dt
  if n.pc.receiving && (n.li.lane k).hears m.now y then
    match row ((n.li.lane k).rx.take y) with
    | none => n
    | some act => (act (m.noteSymbol k y)).finish
  else n

/-! ### Decisions (R163 to R165) -/

/-- R163, R165: a good frame joins the command queue, or is dropped and counted at a full one. Either restarts the
link silence timer of an active node (R171); one that enters the queue in standby wakes the node (R193). -/
def enqueueCommand (f : Frame) (n : Node) : Node :=
  if n.ch.cmdQueue.length < Config.commandQueueCap then
    let n := n.withCh { n.ch with cmdQueue := n.ch.cmdQueue ++ [f] }
    match n.pc.power with
    | .starting => n
    | .active => n.silenceRestart
    | .standby => n.frameWake
  else
    let n := n.withLi { n.li with commandDrop := linkInc n.li.commandDrop }
    match n.pc.power with
    | .starting => n
    | .active => n.silenceRestart
    | .standby => n

/-- R165: a frame joins the north forward buffer, or is dropped and counted on lane 0. -/
def enqueueNorth (f : Frame) (n : Node) : Node :=
  if n.li.north.length < Config.forwardCap then n.withLi { n.li with north := n.li.north ++ [f] }
  else n.modifyLane .rxS fun l => l.count fun c => { c with forwardDrop := linkInc c.forwardDrop }

/-- R165: a frame joins the south forward buffer, or is dropped and counted on lane 1. -/
def enqueueSouth (f : Frame) (n : Node) : Node :=
  if n.li.south.length < Config.forwardCap then n.withLi { n.li with south := n.li.south ++ [f] }
  else n.modifyLane .rxN fun l => l.count fun c => { c with forwardDrop := linkInc c.forwardDrop }

/-- R163, R164: a frame dropped for its address. -/
def countMisaddressed (n : Node) : Node := n.withLi { n.li with misaddressed := linkInc n.li.misaddressed }

/-- R163: the northbound decision. -/
def northbound (f : Frame) (n : Node) : Node :=
  let a := f.address.toNat
  if a = 63 then (n.enqueueCommand f).enqueueNorth f
  else if a = 0 then
    if n.li.address = 0 then (if f.kind = 0x01 then n.enqueueCommand f else n.countMisaddressed)
    else n.enqueueNorth f
  else if a ≤ 60 then (if a = n.li.address then n.enqueueCommand f else n.enqueueNorth f)
  else n.countMisaddressed

/-- R164: the southbound check. -/
def southbound (f : Frame) (n : Node) : Node :=
  if f.address.toNat ≤ 60 then n.enqueueSouth f else n.countMisaddressed

/-! ### Ends of transmissions (R165 to R167) -/

/-- R166: the frame whose last symbol has been sent on TX_N leaves the buffer. -/
def northSent (n : Node) : Node := n.withLi { n.li with txN := none, north := n.li.north.tail }

/-- R167: the frame whose last symbol has been sent on TX_S leaves its queue or buffer. -/
def southSent (who : Sender) (n : Node) : Node :=
  let n := n.withLi { n.li with txS := none }
  match who with
  | .reply => n.withCh { n.ch with replyQueue := n.ch.replyQueue.tail }
  | .forward => n.withLi { n.li with south := n.li.south.tail }

end Node

end Sys2Proof.Machine
end

