-- ==== Sys2Proof/Machine/Resets.lean ====
section
/-! DEFINITION. Power-on reset, break reset, loss of supply, start-up and soft reset (R170, R179, R191 and the reset
tables of every chapter), and what a save takes and a start-up loads (R188, R189). -/

namespace Sys2Proof.Machine

namespace Node

/-- The values every block takes at a power-on or break reset; the identity record and the store image are kept. -/
def coldReset (cause : ResetCause) (phase : Phase) (n : Node) : Node :=
  Node.cold n.now n.identity n.ss.image cause phase

/-- R161, R170: the receivers start, with RX_S high (log entry 32). -/
def startReceivers (n : Node) : Node :=
  n.withLi { n.li with
    laneRxS := LaneState.initial n.now
    laneRxN := LaneState.initial n.now
    laneTxS := LaneState.initial n.now
    laneTxN := LaneState.initial n.now
    rxSHigh := n.now }

/-- R191: start-up begins: the receivers run, the settings load runs and the Conversion Unit powers up. -/
def beginStartUp (n : Node) : Node :=
  (n.startReceivers.withPc { n.pc with phase := .loading (n.now + Config.loadTime) }).powerUp

/-- R191: a power-on reset. -/
def powerOnReset (n : Node) : Node := (n.coldReset .powerOn (.loading (n.now + Config.loadTime))).powerUp

/-- R170: entry to break reset. -/
def breakReset (n : Node) : Node := n.coldReset .break_ (.breakDrive (n.now + Config.breakDriveTime))

/-- R189: the supply falls: all activity stops (log entry 16). -/
def supplyLost (n : Node) : Node := n.coldReset n.pc.cause .unpowered

/-! ### Store and load (R188, R189) -/

/-- R189: the snapshot a save takes: the active plan is the stored plan. -/
def snapshot (n : Node) : Image where
  settings := n.cfg
  limits := (n.lm.recs.filter fun r => decide (r.source ≤ 20)).map LimitRec.cfg
  trim := n.cu.trim
  plan := n.seq.active

/-- R188: the limit configurations of sources 1 to 20 replaced. -/
def loadLimits (cfg : Nat → LimitCfg) (n : Node) : Node :=
  n.withLm { n.lm with recs := n.lm.recs.map fun r => if r.source ≤ 20 then { r with cfg := cfg r.source } else r }

/-- R10, R188: the load is applied. -/
def applyLoad (n : Node) : Node :=
  match n.ss.image with
  | some im =>
    let n := n.withCfg im.settings
    let n := n.loadLimits fun s => im.limits.getD (s - 1) (LimitCfg.factory s)
    n.withCu { n.cu with trim := im.trim }
  | none =>
    let n := n.withCfg Settings.factory
    let n := n.loadLimits LimitCfg.factory
    let n := n.withCu { n.cu with trim := n.identity.factoryTrim }
    n.raiseFault .storeInvalid 0 n.seq.passCounter none

/-- R40: the autostart, when AUTOSTART is on and the image is valid and holds a plan. -/
def autostart (n : Node) : Node :=
  match n.ss.image.bind Image.plan with
  | none => n
  | some p =>
    if n.cfg.autostart then (n.withSeq { n.seq with staged := some p }).passStart true else n

/-- R191: start-up completes. -/
def startUpComplete (n : Node) : Node :=
  let n := n.applyLoad
  let n := n.withPc { n.pc with power := .active, phase := .complete }
  ((n.restartFrame Equalizer.adjusted).silenceRestart).autostart

/-! ### Soft reset (R179) -/

/-- R17: the Conversion Unit at a soft reset. -/
def cuSoftReset (n : Node) : Node :=
  n.withCu { n.cu with
    st := match n.cu.st with
      | .converting _ => .recovering (n.now + Config.cuRecoveryTime)
      | .off => .off
      | .powering t => .powering t
      | .idle => .idle
      | .recovering t => .recovering t
    holder := none
    waiting := []
    request := none
    injection := .off
    heldInjection := none }

/-- R76: the Limit Monitor at a soft reset keeps the limit configurations. -/
def lmSoftReset (n : Node) : Node :=
  n.withLm {
    recs := n.lm.recs.map fun r => { r.zeroCounts with st := .normal }
    passSources := []
    popMark := false }

/-- R125: the Equalizer at a soft reset; the frame timer restarts at slot 0. -/
def eqSoftReset (n : Node) : Node :=
  (n.withEq { n.eq with
    st := .idle
    channels := channelNumbers.map (Channel.initial n.now)
    quiet := QuietList.empty
    preStandby := none }).restartFrame Equalizer.adjusted

/-- R179, part 3: the frames of the reply queue that stay: one whose transmission has begun. -/
def keptReplies (n : Node) : List Frame :=
  match n.li.txS with
  | none => []
  | some t =>
    match t.sender with
    | .reply => n.ch.replyQueue.take 1
    | .forward => []

/-- R179, parts 2 to 5: the queues, the pending replies and the alert generator. -/
def chSoftReset (n : Node) : Node :=
  let kept := n.keptReplies
  let n := n.withLi { n.li with
    replyDrop := min (n.li.replyDrop + (n.ch.replyQueue.length - kept.length)) Config.linkCounterMax }
  n.withCh {
    cmdQueue := []
    replyQueue := kept
    pendingReplies := n.ch.pendingReplies.filter fun r => r.owner == .store
    reasons := AlertReasons.none
    lastAlert := none }

/-- R179, parts 1 to 6: the soft reset. -/
def softReset (n : Node) : Node :=
  let n := n.cuSoftReset
  let n := n.withSeq Sequencer.initial
  let n := n.withRt initialRecords
  let n := n.lmSoftReset
  let n := n.withFt { entries := [], evictions := 0 }
  let n := n.withMu { st := .idle, op := none }
  let n := n.withPc { n.pc with cause := .soft, watchTimer := none, watchRaise := false, watchPass := none }
  n.eqSoftReset.silenceRestart.chSoftReset

end Node

end Sys2Proof.Machine
end

