-- ==== Sys2Proof/Machine/Rows.lean ====
section
/-! DEFINITION. The three shapes of a row: an event from outside at a moment of its own, the expiry of a timer, and
the taking of the frame at the front of the command queue (R176). A row whose event cannot occur in the node as
it stands leaves the node as it is (log entry 2). -/

namespace Sys2Proof.Machine

/-- A meaning answers the state with the node as the event leaves it; the waiting commands are untouched. -/
def State.onNode (s : State) (f : Node → Node) : Host.Outcome State Fault Refusal :=
  .next { s with toNode := f s.toNode }

namespace Node

/-- An event from outside, `dt` after the last event. -/
def outside (dt : Nat) (act : Node → Node) (n : Node) : Node := (act (n.elapse dt)).finish

/-- The expiry of a timer that is armed for the moment `t`. -/
def timed (t : Option Nat) (act : Nat → Node → Node) (n : Node) : Node :=
  match t with
  | none => n
  | some t =>
    match n.reach t with
    | none => n
    | some m => (act t m).finish

/-- R176: the Command Handler may take a frame: ACTIVE, a free place in the reply queue, no pending reply. -/
def canTake (n : Node) : Bool := n.pc.power == .active && n.replyFree && n.ch.pendingReplies.isEmpty

/-- R176: the frame at the front of the command queue is taken, when the row is about it. -/
def takeFrame (isRow : Frame → Bool) (n : Node) : Option (Frame × Node) :=
  match n.ch.cmdQueue with
  | [] => none
  | f :: rest => if n.canTake && isRow f then some (f, n.withCh { n.ch with cmdQueue := rest }) else none

/-- R175, R176: a command taken: LENGTH is checked first, then the command's own rule judges it. -/
def command (isRow : Frame → Bool) (fits : List Byte → Bool) (judge : Frame → Node → Node) (n : Node) : Node :=
  match n.takeFrame isRow with
  | none => n
  | some (f, m) => (if fits f.payload then judge f m else m.answer f .badLength []).finish

end Node

/-- The frame is of KIND `k`. -/
def isKind (k : Byte) (f : Frame) : Bool := f.kind == k

/-- LENGTH is `k` (R184). -/
def lengthIs (k : Nat) (p : List Byte) : Bool := p.length == k

end Sys2Proof.Machine
end

