-- ==== Sys2Proof/Machine/ConfigCommands.lean ====
section
/-! DEFINITION. CONFIG_WRITE, one row for each item or group of items, and CONFIG_READ (R186, R187, and the owners'
rules for the effect of a write). -/

namespace Sys2Proof.Machine

/-! ### The shape of every CONFIG_WRITE (R187) -/

/-- The item id a CONFIG_WRITE or CONFIG_READ carries, when it carries one. -/
def Frame.item (f : Frame) : Option Nat := f.body.head?.map fun b => b.toNat

/-- An item id of R186. -/
def knownItem (i : Nat) : Bool := decide (1 ≤ i) && decide (i ≤ 15)

/-- The frame is a CONFIG_WRITE that a row of the items `lo` to `hi` takes. One that carries no item id, or an unknown
one, is a CONFIG_WRITE of no row in particular, and each row takes it (log entry 12). -/
def writesItem (lo hi : Nat) (f : Frame) : Bool :=
  f.kind == 0x10 && (match f.item with
    | none => true
    | some i => !knownItem i || (decide (lo ≤ i) && decide (i ≤ hi)))

/-- R187: parts 1 to 3 and 5 of the judgement: the id, the width, the value and then the effect. `value` reads the
value field and says whether it has the right width; `effect` is none for a value outside the item's values. -/
def Node.judgeConfig {α : Type} (value : Nat → List Byte → Option α)
    (effect : Nat → α → Node → Option (Node × Status)) (f : Frame) (n : Node) : Node :=
  match f.body with
  | [] => n.answer f .badLength []
  | b :: field =>
    if knownItem b.toNat then
      match value b.toNat field with
      | none => n.answer f .badLength []
      | some v =>
        match effect b.toNat v n with
        | none => n.answer f .invalid []
        | some (m, st) => m.answer f st []
    else n.answer f .invalid []

/-- A value field of one byte. -/
def oneByte (_ : Nat) : List Byte → Option Nat
  | [b] => some b.toNat
  | _ => none

/-- A value field of two bytes. -/
def twoBytes (_ : Nat) : List Byte → Option Nat
  | [b1, b0] => some (read2 b1 b0)
  | _ => none

/-- R187: an item that takes each of its values with no effect beside it. -/
def plainItem (ok : Nat → Bool) (set : Settings → Nat → Settings) (_ : Nat) (v : Nat) (n : Node) :
    Option (Node × Status) :=
  if ok v then some (n.withCfg (set n.cfg v), .ok) else none

/-- A CONFIG_WRITE row over the items `lo` to `hi`; the judgement looks at LENGTH itself, since the id comes
first (R187). -/
def Node.configWrite {α : Type} (lo hi : Nat) (value : Nat → List Byte → Option α)
    (effect : Nat → α → Node → Option (Node × Status)) : Node → Node :=
  Node.command (writesItem lo hi) (fun _ => true) (Node.judgeConfig value effect)

/-! ### POPULATION (R2, R3) -/

/-- R2, condition 2, for one plan place: no step is a cell above the population `v`. -/
def planFits (v : Nat) (p : Option Plan) : Bool :=
  match p with
  | none => true
  | some p => p.steps.all fun s => !isCell s.source || decide (s.source ≤ v)

/-- R2: the four conditions of a change to the population `v`. -/
def Node.populationAllowed (v : Nat) (n : Node) : Bool :=
  n.seq.st == .stopped && planFits v n.seq.active && planFits v n.seq.staged
    && (n.eq.st == .idle || n.eq.st == .safeStop) && !n.eq.owes && !n.eq.hasStaged && !n.mu.inFlight

/-- A cell above the population `v`. -/
def aboveCell (v src : Nat) : Bool := isCell src && decide (v < src)

/-- R56: records of cells above the population become EMPTY. -/
def emptyAbove (v : Nat) (rt : List Record) : List Record :=
  rt.map fun r => if aboveCell v r.source then { r with content := none } else r

/-- R75: limit states of cells above the population return to NORMAL, and the change is marked (R69). -/
def LimitMonitor.populationChange (m : LimitMonitor) (v : Nat) : LimitMonitor :=
  { m with
    recs := m.recs.map fun r => if aboveCell v r.source then { r.zeroCounts with st := .normal } else r
    popMark := true }

/-- R75, R94: ACTIVE CELL_HIGH and CELL_LOW entries of cells above the population become CLEARED. -/
def FaultTable.populationChange (t : FaultTable) (v : Nat) : FaultTable :=
  { t with entries := t.entries.map fun e =>
      if (e.kind == .cellHigh || e.kind == .cellLow) && aboveCell v e.source then { e with active := false } else e }

/-- R124: channels above the population lose budget and staged values. -/
def Equalizer.populationChange (e : Equalizer) (v : Nat) : Equalizer :=
  e.mapChannels fun c => if v < c.num then { c with budget := 0, staged := none } else c

/-- R3: an accepted change of the population. -/
def Node.changePopulation (v : Nat) (n : Node) : Node :=
  let n := n.withCfg { n.cfg with population := v }
  let n := n.withRt (emptyAbove v n.rt)
  let n := n.withLm (n.lm.populationChange v)
  let n := n.withFt (n.ft.populationChange v)
  n.withEq (n.eq.populationChange v)

/-- R2: a write of POPULATION. -/
def Node.writePopulation (_ : Nat) (v : Nat) (n : Node) : Option (Node × Status) :=
  if 4 ≤ v ∧ v ≤ 14 then
    if v = n.cfg.population then some (n, .ok)
    else if n.populationAllowed v then some (n.changePopulation v, .ok)
    else some (n, .notAllowed)
  else none

/-- R2: CONFIG_WRITE_POPULATION. -/
def execConfigWritePopulation (s : State) : Host.Outcome State Fault Refusal :=
  s.onNode (Node.configWrite 1 1 oneByte Node.writePopulation)

/-! ### The other items -/

/-- R72: a write of AUX_ROLE `item − 1`. -/
def Node.writeAuxRole (item v : Nat) (n : Node) : Option (Node × Status) :=
  (AuxRole.ofCode v).map fun r => (n.withCfg (n.cfg.setRole (item - 1) r), .ok)

/-- R72: CONFIG_WRITE_AUX_ROLE. -/
def execConfigWriteAuxRole (s : State) : Host.Outcome State Fault Refusal :=
  s.onNode (Node.configWrite 2 5 oneByte Node.writeAuxRole)

/-- R71: CONFIG_WRITE_SUM_TOL. -/
def execConfigWriteSumTol (s : State) : Host.Outcome State Fault Refusal :=
  s.onNode (Node.configWrite 6 6 twoBytes (plainItem (fun _ => true) fun c v => { c with sumTol := v }))

/-- R127: CONFIG_WRITE_QUIET_SETTLE. -/
def execConfigWriteQuietSettle (s : State) : Host.Outcome State Fault Refusal :=
  s.onNode (Node.configWrite 7 7 oneByte (plainItem (fun v => decide (v ≤ 15)) fun c v => { c with quietSettle := v }))

/-- R97, R98: the four frame lengths. -/
def isFrameLength (v : Nat) : Bool := v == 256 || v == 512 || v == 1024 || v == 2048

/-- R98: CONFIG_WRITE_EQ_FRAME; the length comes into force at the next frame boundary. -/
def execConfigWriteEqFrame (s : State) : Host.Outcome State Fault Refusal :=
  s.onNode (Node.configWrite 8 8 twoBytes (plainItem isFrameLength fun c v => { c with eqFrame := v }))

/-- R172: a write of SILENCE_TIMEOUT restarts the link silence timer. -/
def Node.writeSilenceTimeout (_ : Nat) (v : Nat) (n : Node) : Option (Node × Status) :=
  some ((n.withCfg { n.cfg with silenceTimeout := v }).silenceRestart, .ok)

/-- R172: CONFIG_WRITE_SILENCE_TIMEOUT. -/
def execConfigWriteSilenceTimeout (s : State) : Host.Outcome State Fault Refusal :=
  s.onNode (Node.configWrite 9 9 oneByte Node.writeSilenceTimeout)

/-- R182: a write of ALERT_ENABLE; turning it off empties the pending set. -/
def Node.writeAlertEnable (_ : Nat) (v : Nat) (n : Node) : Option (Node × Status) :=
  match v with
  | 0 =>
    let n := n.withCfg { n.cfg with alertEnable := false }
    some (n.withCh { n.ch with reasons := AlertReasons.none }, .ok)
  | 1 => some (n.withCfg { n.cfg with alertEnable := true }, .ok)
  | _ => none

/-- R182: CONFIG_WRITE_ALERT_ENABLE. -/
def execConfigWriteAlertEnable (s : State) : Host.Outcome State Fault Refusal :=
  s.onNode (Node.configWrite 10 10 oneByte Node.writeAlertEnable)

/-- R182: CONFIG_WRITE_ALERT_HOLDOFF; a shorter holdoff can make an ALERT due at this event. -/
def execConfigWriteAlertHoldoff (s : State) : Host.Outcome State Fault Refusal :=
  s.onNode (Node.configWrite 11 11 oneByte (plainItem (fun _ => true) fun c v => { c with alertHoldoff := v }))

/-- R187: CONFIG_WRITE_WATCH_INTERVAL. -/
def execConfigWriteWatchInterval (s : State) : Host.Outcome State Fault Refusal :=
  s.onNode (Node.configWrite 12 12 twoBytes
    (plainItem (fun v => decide (v ≤ 3600)) fun c v => { c with watchInterval := v }))

/-- R187: CONFIG_WRITE_LINE_THRESHOLD. -/
def execConfigWriteLineThreshold (s : State) : Host.Outcome State Fault Refusal :=
  s.onNode (Node.configWrite 13 13 twoBytes
    (plainItem (fun v => decide (1 ≤ v)) fun c v => { c with lineThreshold := v }))

/-- R187: CONFIG_WRITE_AUTOSTART. -/
def execConfigWriteAutostart (s : State) : Host.Outcome State Fault Refusal :=
  s.onNode (Node.configWrite 14 14 oneByte
    (plainItem (fun v => decide (v ≤ 1)) fun c v => { c with autostart := v == 1 }))

/-- R51: no code appears twice. -/
def noRepeat : List Nat → Bool
  | [] => true
  | x :: rest => !rest.contains x && noRepeat rest

/-- R184: the value of a REPORT_LIST: a list number and 0 to 21 codes. -/
def reportValue (_ : Nat) : List Byte → Option (Nat × List Nat)
  | [] => none
  | j :: codes => if codes.length ≤ 21 then some (j.toNat, codes.map fun b => b.toNat) else none

/-- R51: a write of REPORT_LIST. -/
def Node.writeReportList (_ : Nat) (v : Nat × List Nat) (n : Node) : Option (Node × Status) :=
  if v.1 ≤ 3 ∧ v.2.all isSource ∧ noRepeat v.2 then some (n.withCfg (n.cfg.setList v.1 v.2), .ok) else none

/-- R51: CONFIG_WRITE_REPORT_LIST. -/
def execConfigWriteReportList (s : State) : Host.Outcome State Fault Refusal :=
  s.onNode (Node.configWrite 15 15 reportValue Node.writeReportList)

/-! ### CONFIG_READ (R187) -/

/-- R187: CONFIG_READ judged (LENGTH 2 or 3; log entry 12). -/
def Node.judgeConfigRead (f : Frame) (n : Node) : Node :=
  match f.body with
  | [b] =>
    if !knownItem b.toNat then n.answer f .invalid []
    else if b.toNat = 15 then n.answer f .badLength []
    else n.answer f .ok (b :: n.cfg.itemBytes b.toNat 0)
  | [b, j] =>
    if !knownItem b.toNat then n.answer f .invalid []
    else if b.toNat = 15 then
      (if j.toNat ≤ 3 then n.answer f .ok (b :: n.cfg.itemBytes 15 j.toNat) else n.answer f .invalid [])
    else n.answer f .badLength []
  | _ => n.answer f .badLength []

/-- R187: CONFIG_READ. -/
def execConfigRead (s : State) : Host.Outcome State Fault Refusal :=
  s.onNode (Node.command (isKind 0x11) (fun p => lengthIs 2 p || lengthIs 3 p) Node.judgeConfigRead)

end Sys2Proof.Machine
end

