-- ==== Sys2Proof/Machine/EqCommands.lean ====
section
/-! DEFINITION. EQ_SET, EQ_STOP, EQ_RESUME and EQ_READ (R108 to R121). -/

namespace Sys2Proof.Machine

/-- R184: LENGTH of EQ_SET is 1 + 5 × entries, 6 to 71. -/
def eqSetLength (p : List Byte) : Bool :=
  decide (6 ≤ p.length) && decide (p.length ≤ 71) && p.length % 5 == 1

/-- R108: an entry the Equalizer takes at population `n`. -/
def EqEntry.allowed (e : EqEntry) (n : Nat) : Bool :=
  decide (1 ≤ e.channel) && decide (e.channel ≤ 14) && decide (e.channel ≤ n) && decide (e.duty ≤ Config.dutyMax)
    && decide (e.budget ≤ Config.budgetMax)

/-- R108: no two entries name the same channel. -/
def distinctChannels : List EqEntry → Bool
  | [] => true
  | e :: rest => !(rest.any fun d => d.channel == e.channel) && distinctChannels rest

/-- R109: the staged values of each named channel replaced. -/
def Equalizer.stage (e : Equalizer) (entries : List EqEntry) : Equalizer :=
  e.mapChannels fun c =>
    match entries.find? fun d => d.channel == c.num with
    | none => c
    | some d => { c with staged := some { duty := d.duty, budget := d.budget } }

/-- R108, R109: EQ_SET judged. -/
def Node.judgeEqSet (f : Frame) (n : Node) : Node :=
  let entries := readEqEntries f.body
  if (entries.all fun e => e.allowed n.cfg.population) && distinctChannels entries then
    (n.withEq (n.eq.stage entries)).answer f .ok []
  else n.answer f .invalid []

/-- R108, R109: EQ_SET. -/
def execEqSet (s : State) : Host.Outcome State Fault Refusal :=
  s.onNode (Node.command (isKind 0x50) eqSetLength Node.judgeEqSet)

/-- R112: every switch opens, every budget and staged value is removed, and RUNNING becomes IDLE. -/
def Equalizer.stop (e : Equalizer) (t : Nat) : Equalizer :=
  let e := (e.cutAll t).mapChannels fun c => { c with budget := 0, staged := none }
  { e with st := if e.st = .running then .idle else e.st }

/-- R112: EQ_STOP. -/
def execEqStop (s : State) : Host.Outcome State Fault Refusal :=
  s.onNode (Node.command (isKind 0x51) (lengthIs 1) fun f n => (n.withEq (n.eq.stop n.now)).answer f .ok [])

/-- R114: SAFE_STOP is left for RUNNING when a budget is above 0, else for IDLE. -/
def Equalizer.resume (e : Equalizer) : Equalizer :=
  { e with st := if e.st = .safeStop then (if e.owes then .running else .idle) else e.st }

/-- R114: EQ_RESUME. -/
def execEqResume (s : State) : Host.Outcome State Fault Refusal :=
  s.onNode (Node.command (isKind 0x52) (lengthIs 1) fun f n => (n.withEq n.eq.resume).answer f .ok [])

/-- R120: the channels an EQ_READ from channel `first` returns: at most six. -/
def Equalizer.page (e : Equalizer) (first : Nat) : List Channel :=
  (e.channels.filter fun c => decide (first ≤ c.num)).take 6

/-- R120, R185: the data of an EQ_READ reply. -/
def Node.eqReadData (n : Node) (first : Nat) : List Byte :=
  put1 n.eq.st.code ++ put2 n.eq.frameMs ++ put1 n.eq.slot ++ put2 n.eq.doneMask ++ put1 first
    ++ put1 (n.eq.page first).length
    ++ (n.eq.page first).flatMap fun c => c.bytes (n.channelStatus c)

/-- R121: the done mask emptied. -/
def Equalizer.emptyDone (e : Equalizer) : Equalizer := e.mapChannels fun c => { c with done := false }

/-- R120: EQ_READ judged; the done mask is emptied after the reply has been formed. -/
def Node.judgeEqRead (f : Frame) (n : Node) : Node :=
  let first := (f.body.headD 0).toNat
  if 1 ≤ first ∧ first ≤ 14 then
    let m := n.answer f .ok (n.eqReadData first)
    m.withEq m.eq.emptyDone
  else n.answer f .invalid []

/-- R120: EQ_READ. -/
def execEqRead (s : State) : Host.Outcome State Fault Refusal :=
  s.onNode (Node.command (isKind 0x53) (lengthIs 2) Node.judgeEqRead)

end Sys2Proof.Machine
end

