-- ==== Sys2Proof/Machine/FaultCommands.lean ====
section
/-! DEFINITION. FAULT_READ, FAULT_ACK and FAULT_ACK_CLEARED (R85 to R89). -/

namespace Sys2Proof.Machine

/-- R85: the entries a FAULT_READ returns: at most `most`, at most seven, from position `start`. -/
def FaultTable.page (t : FaultTable) (start most : Nat) : List FaultEntry :=
  (t.entries.drop start).take (min most 7)

/-- R85: the data of a FAULT_READ reply. -/
def FaultTable.readBytes (t : FaultTable) (start most : Nat) : List Byte :=
  put1 start ++ put1 t.entries.length ++ put1 t.activeCount ++ put1 t.evictions ++ put1 (t.page start most).length
    ++ (t.page start most).flatMap FaultEntry.bytes

/-- R85: FAULT_READ judged. -/
def Node.judgeFaultRead (f : Frame) (n : Node) : Node :=
  match f.body with
  | [start, most] =>
    if 31 < start.toNat ∨ most.toNat = 0 ∨ 32 < most.toNat then n.answer f .invalid []
    else n.answer f .ok (n.ft.readBytes start.toNat most.toNat)
  | _ => n.answer f .badLength []

/-- R85: FAULT_READ. -/
def execFaultRead (s : State) : Host.Outcome State Fault Refusal :=
  s.onNode (Node.command (isKind 0x40) (lengthIs 3) Node.judgeFaultRead)

/-- R87: the entry of a pair removed; every entry after it moves forward. -/
def FaultTable.remove (t : FaultTable) (k : FaultKind) (src : Nat) : FaultTable :=
  { t with entries := t.entries.filter fun e => !(e.kind == k && e.source == src) }

/-- R87: an acknowledgement of the pair with the count seen. -/
def Node.acknowledge (f : Frame) (k : FaultKind) (src seen : Nat) (n : Node) : Node :=
  match n.ft.find k src with
  | none => n.answer f .notFound []
  | some e =>
    if e.active then n.answer f .stillActive (put1 e.count)
    else if e.count = seen then (n.withFt (n.ft.remove k src)).answer f .ok []
    else n.answer f .stale (put1 e.count)

/-- R87: FAULT_ACK judged. -/
def Node.judgeFaultAck (f : Frame) (n : Node) : Node :=
  match f.body with
  | [k, src, seen] =>
    match FaultKind.ofCode k.toNat with
    | none => n.answer f .invalid []
    | some kind => if seen.toNat = 0 then n.answer f .invalid [] else n.acknowledge f kind src.toNat seen.toNat
  | _ => n.answer f .badLength []

/-- R87: FAULT_ACK. -/
def execFaultAck (s : State) : Host.Outcome State Fault Refusal :=
  s.onNode (Node.command (isKind 0x41) (lengthIs 4) Node.judgeFaultAck)

/-- R89: every CLEARED entry removed and the eviction counter set to 0. -/
def FaultTable.dropCleared (t : FaultTable) : FaultTable where
  entries := t.entries.filter fun e => e.active
  evictions := 0

/-- R89: the number of CLEARED entries. -/
def FaultTable.clearedCount (t : FaultTable) : Nat := t.entries.countP fun e => !e.active

/-- R89: FAULT_ACK_CLEARED. -/
def execFaultAckCleared (s : State) : Host.Outcome State Fault Refusal :=
  s.onNode (Node.command (isKind 0x42) (lengthIs 1) fun f n =>
    (n.withFt n.ft.dropCleared).answer f .ok (put1 n.ft.clearedCount))

end Sys2Proof.Machine
end

