-- ==== Sys2Proof/Machine/Lanes.lean ====
section
/-! DEFINITION. The rows of the four lane receivers (R161 to R164). Each names one thing a symbol can be to the
receiver as it stands, and together they name them all. -/

namespace Sys2Proof.Machine

/-- R161: SYMBOL_RECEIVED: a byte that begins or continues a frame, or is ignored in HUNT. -/
def execSymbolReceived (dt : Nat) (lane : Lane) (sym : LineSymbol) (s : State) :
    Host.Outcome State Fault Refusal :=
  s.onNode (Node.laneRow dt lane sym fun
    | .ignored => some id
    | .taken rx => some (Node.setReceiver lane rx)
    | .framing => none
    | .length => none
    | .truncated _ => none
    | .badCrc => none
    | .good _ => none)

/-- R162: a frame goes wrong: the receiver returns to HUNT, or begins the frame `rx`, and one counter rises. -/
def Node.abandon (lane : Lane) (rx : Receiver) (f : LaneCounters → LaneCounters) (n : Node) : Node :=
  (n.setReceiver lane rx).modifyLane lane fun l => l.count f

/-- R162: FRAMING_ERROR, in every receiver state. -/
def execFramingError (dt : Nat) (lane : Lane) (sym : LineSymbol) (s : State) :
    Host.Outcome State Fault Refusal :=
  s.onNode (Node.laneRow dt lane sym fun
    | .framing => some (Node.abandon lane .hunt fun c => { c with framing := linkInc c.framing })
    | .ignored => none
    | .taken _ => none
    | .length => none
    | .truncated _ => none
    | .badCrc => none
    | .good _ => none)

/-- R162: LENGTH_ERROR. -/
def execLengthError (dt : Nat) (lane : Lane) (sym : LineSymbol) (s : State) :
    Host.Outcome State Fault Refusal :=
  s.onNode (Node.laneRow dt lane sym fun
    | .length => some (Node.abandon lane .hunt fun c => { c with length := linkInc c.length })
    | .ignored => none
    | .taken _ => none
    | .framing => none
    | .truncated _ => none
    | .badCrc => none
    | .good _ => none)

/-- R162: TRUNCATED_FRAME: the mark byte begins a new frame. -/
def execTruncatedFrame (dt : Nat) (lane : Lane) (sym : LineSymbol) (s : State) :
    Host.Outcome State Fault Refusal :=
  s.onNode (Node.laneRow dt lane sym fun
    | .truncated rx => some (Node.abandon lane rx fun c => { c with truncated := linkInc c.truncated })
    | .ignored => none
    | .taken _ => none
    | .framing => none
    | .length => none
    | .badCrc => none
    | .good _ => none)

/-- R162: CRC_MISMATCH. -/
def execCrcMismatch (dt : Nat) (lane : Lane) (sym : LineSymbol) (s : State) :
    Host.Outcome State Fault Refusal :=
  s.onNode (Node.laneRow dt lane sym fun
    | .badCrc => some (Node.abandon lane .hunt fun c => { c with crc := linkInc c.crc })
    | .ignored => none
    | .taken _ => none
    | .framing => none
    | .length => none
    | .truncated _ => none
    | .good _ => none)

/-- R163: FRAME_RECEIVED_SOUTH: lane 0 hands a good frame to the northbound decision. -/
def execFrameReceivedSouth (dt : Nat) (sym : LineSymbol) (s : State) : Host.Outcome State Fault Refusal :=
  s.onNode (Node.laneRow dt .rxS sym fun
    | .good f => some fun n => (n.setReceiver .rxS .hunt).northbound f
    | .ignored => none
    | .taken _ => none
    | .framing => none
    | .length => none
    | .truncated _ => none
    | .badCrc => none)

/-- R164: FRAME_RECEIVED_NORTH: lane 1 hands a good frame to the southbound check. -/
def execFrameReceivedNorth (dt : Nat) (sym : LineSymbol) (s : State) : Host.Outcome State Fault Refusal :=
  s.onNode (Node.laneRow dt .rxN sym fun
    | .good f => some fun n => (n.setReceiver .rxN .hunt).southbound f
    | .ignored => none
    | .taken _ => none
    | .framing => none
    | .length => none
    | .truncated _ => none
    | .badCrc => none)

/-- R161: a read-back lane, 2 or 3, discards a good frame once it has been checked. -/
def Node.readBack (dt : Nat) (lane : Lane) (sym : LineSymbol) (n : Node) : Node :=
  if lane = .txS ∨ lane = .txN then
    n.laneRow dt lane sym fun
    | .good _ => some (Node.setReceiver lane .hunt)
    | .ignored => none
    | .taken _ => none
    | .framing => none
    | .length => none
    | .truncated _ => none
    | .badCrc => none
  else n

/-- R161: FRAME_READ_BACK. -/
def execFrameReadBack (dt : Nat) (lane : Lane) (sym : LineSymbol) (s : State) :
    Host.Outcome State Fault Refusal := s.onNode (Node.readBack dt lane sym)

/-- R162: GAP_TIMEOUT: no start bit came within 100 µs of the last symbol; the frame is abandoned at the expiry. A symbol
whose row puts its start bit before the expiry all the same is taken in HUNT (log entry 33). -/
def execGapTimeout (lane : Lane) (s : State) : Host.Outcome State Fault Refusal :=
  s.onNode fun n => n.timed (n.li.lane lane).gapExpiry fun _ n =>
    n.abandon lane .hunt fun c => { c with timeout := linkInc c.timeout }

end Sys2Proof.Machine
end

