-- ==== Sys2Proof/Machine/LimitCommands.lean ====
section
/-! DEFINITION. LIMIT_WRITE and LIMIT_READ (R61 to R63). -/

namespace Sys2Proof.Machine

/-- The operands of LIMIT_WRITE (R184), its limits still bytes, since each source reads them by its own rule. -/
structure LimitOperands where
  mask : Nat
  flags : Byte
  upper1 : Byte
  upper0 : Byte
  lower1 : Byte
  lower0 : Byte
  p : Nat
  deriving DecidableEq, Repr

/-- R184: the operands of LIMIT_WRITE. -/
def readLimitOperands : List Byte → Option LimitOperands
  | [m2, m1, m0, fl, u1, u0, l1, l0, p] =>
    some {
      mask := read3 m2 m1 m0
      flags := fl
      upper1 := u1
      upper0 := u0
      lower1 := l1
      lower0 := l0
      p := p.toNat }
  | _ => none

/-- R61: the configuration the operands give to a source; the bytes of an absent limit are ignored (R183). -/
def LimitOperands.cfg (o : LimitOperands) (src : Nat) : LimitCfg where
  upper := if o.flags.getLsbD 0 then some (readLimit src o.upper1 o.upper0) else none
  lower := if o.flags.getLsbD 1 then some (readLimit src o.lower1 o.lower0) else none
  p := o.p

/-- A present limit lies within the source's range (R59). -/
def limitInRange (src : Nat) (v : Option Int) : Bool :=
  match v with
  | none => true
  | some v => decide (sourceLow src ≤ v) && decide (v ≤ sourceHigh src)

/-- R61: the configuration is one the source can take. -/
def LimitCfg.fits (c : LimitCfg) (src : Nat) : Bool :=
  limitInRange src c.upper && limitInRange src c.lower
    && (match c.lower, c.upper with
      | some l, some u => decide (l ≤ u)
      | _, _ => true)

/-- R61: the sources LIMIT_WRITE may name, 1 to 20. -/
def limitWritable (src : Nat) : Bool := decide (1 ≤ src) && decide (src ≤ 20)

/-- R61, R183: the command is accepted. -/
def LimitOperands.accepted (o : LimitOperands) : Bool :=
  onlyBitsBelow 2 o.flags && decide (o.mask ≠ 0) && (sourcesOfMask o.mask).all limitWritable
    && decide (1 ≤ o.p) && decide (o.p ≤ 15)
    && (sourcesOfMask o.mask).all fun src => (o.cfg src).fits src

/-- R62: the configurations of the sources in `srcs` replaced, their counts set to 0, their states kept. -/
def LimitMonitor.write (m : LimitMonitor) (srcs : List Nat) (cfg : Nat → LimitCfg) : LimitMonitor :=
  { m with recs := m.recs.map fun r =>
      if srcs.contains r.source then { r.zeroCounts with cfg := cfg r.source } else r }

/-- R61, R62: LIMIT_WRITE judged. -/
def Node.judgeLimitWrite (f : Frame) (n : Node) : Node :=
  match readLimitOperands f.body with
  | none => n.answer f .badLength []
  | some o =>
    if o.accepted then (n.withLm (n.lm.write (sourcesOfMask o.mask) o.cfg)).answer f .ok []
    else n.answer f .invalid []

/-- R61, R62: LIMIT_WRITE. -/
def execLimitWrite (s : State) : Host.Outcome State Fault Refusal :=
  s.onNode (Node.command (isKind 0x12) (lengthIs 10) Node.judgeLimitWrite)

/-- R63, R185: what LIMIT_READ reports of a source. -/
def LimitRec.bytes (r : LimitRec) : List Byte :=
  r.cfg.bytes ++ put1 r.st.code ++ put1 r.overCount ++ put1 r.underCount ++ put1 r.releaseCount

/-- R63: LIMIT_READ judged; the monitor holds a record for each source 1 to 21 and for no other code. -/
def Node.judgeLimitRead (f : Frame) (n : Node) : Node :=
  let src := (f.body.headD 0).toNat
  match n.lm.find src with
  | none => n.answer f .invalid []
  | some r => if isSource src then n.answer f .ok r.bytes else n.answer f .invalid []

/-- R63: LIMIT_READ. -/
def execLimitRead (s : State) : Host.Outcome State Fault Refusal :=
  s.onNode (Node.command (isKind 0x13) (lengthIs 2) Node.judgeLimitRead)

end Sys2Proof.Machine
end

