-- ==== Sys2Proof/Machine/MaintCommands.lean ====
section
/-! DEFINITION. TRIM, LINE_CHECK, MAINT_ABORT and STANDBY (R140, R142, R154, R192). -/

namespace Sys2Proof.Machine

/-- R140: a maintenance operation is refused BUSY. -/
def Node.maintBusy (n : Node) : Bool :=
  n.mu.inFlight || !(n.seq.st == .stopped || n.seq.st == .passGap)

/-- R141, R142: an accepted operation takes its record and asks for the lease. No reply is formed now (R140). -/
def Node.acceptOperation (f : Frame) (b : OpBody) (n : Node) : Node :=
  (n.withMu {
    st := .leaseWait
    op := some { tag := f.tag, broadcast := f.isBroadcast, body := b } }).leaseRequest .mu

/-- R140, R183: a range mask that TRIM accepts. -/
def rangeMaskValid (b : Byte) : Bool := decide (b.toNat ≠ 0) && decide (b.toNat < 8)

/-- R141: the fields of a TRIM at its acceptance. Range, working value and bit are set by its first trial (R145); what
they hold until then is the model's choice (log entry 36). -/
def TrimOp.initial (selected : RangeSet) : TrimOp where
  selected := selected
  committed := { cell := none, aux := none, stack := none }
  range := .cell
  u := 0
  bit := 5

/-- R140: TRIM judged. -/
def Node.judgeTrim (f : Frame) (n : Node) : Node :=
  let mask := f.body.headD 0
  if !rangeMaskValid mask then n.answer f .invalid []
  else if n.maintBusy then n.answer f .busy []
  else n.acceptOperation f (.trim (TrimOp.initial (readRangeMask mask)))

/-- R140: TRIM. -/
def execTrim (s : State) : Host.Outcome State Fault Refusal :=
  s.onNode (Node.command (isKind 0x60) (lengthIs 2) Node.judgeTrim)

/-- R141: the fields of a LINE_CHECK at its acceptance, at population `n` and LINE_THRESHOLD `threshold`. That *lo*, *hi*,
round kind and span are those of the first round (R149) already before it begins is the model's choice (log entry 36). -/
def LineOp.initial (n threshold : Nat) : LineOp where
  n := n
  threshold := threshold
  lo := 0
  hi := n
  round := .first
  a := 0
  b := n
  rounds := 0
  offReading := none

/-- R140: LINE_CHECK judged. -/
def Node.judgeLineCheck (f : Frame) (n : Node) : Node :=
  if n.maintBusy then n.answer f .busy []
  else n.acceptOperation f (.line (LineOp.initial n.cfg.population n.cfg.lineThreshold))

/-- R140: LINE_CHECK. -/
def execLineCheck (s : State) : Host.Outcome State Fault Refusal :=
  s.onNode (Node.command (isKind 0x61) (lengthIs 1) Node.judgeLineCheck)

/-- R154: the operation in flight is ended, whatever state it is in. -/
def Node.abortOperation (o : Operation) (n : Node) : Node :=
  let n := n.leaseWithdraw .mu
  match o.body with
  | .trim t => n.endOperation 0x60 .aborted t.committed.bytes
  | .line l => n.endOperation 0x61 .aborted (put1 l.rounds)

/-- R154: MAINT_ABORT judged; its OK comes before the operation's ABORTED. -/
def Node.judgeMaintAbort (f : Frame) (n : Node) : Node :=
  match n.mu.op with
  | none => n.answer f .notFound []
  | some o => (n.answer f .ok []).abortOperation o

/-- R154: MAINT_ABORT. -/
def execMaintAbort (s : State) : Host.Outcome State Fault Refusal :=
  s.onNode (Node.command (isKind 0x62) (lengthIs 1) Node.judgeMaintAbort)

/-- R192: STANDBY judged. -/
def Node.judgeStandby (f : Frame) (n : Node) : Node :=
  if n.mu.inFlight || n.pc.watchPass.isSome then n.answer f .busy []
  else (n.answer f .ok []).enterStandby

/-- R192: STANDBY. -/
def execStandby (s : State) : Host.Outcome State Fault Refusal :=
  s.onNode (Node.command (isKind 0x70) (lengthIs 1) Node.judgeStandby)

end Sys2Proof.Machine
end

