-- ==== Sys2Proof/Machine/NodeCommands.lean ====
section
/-! DEFINITION. The commands of the node itself: unknown kinds, ASSIGN, PING, READ_IDENTITY, READ_LINK_COUNTERS and
RESET_NODE (R168, R173, R175, R178, R179). -/

namespace Sys2Proof.Machine

/-- R175: the frame's KIND is no command kind. -/
def isUnknownKind (f : Frame) : Bool := !commandKinds.contains f.kind

/-- R175: UNKNOWN_KIND_COMMAND; its LENGTH is not looked at. -/
def execUnknownKindCommand (s : State) : Host.Outcome State Fault Refusal :=
  s.onNode (Node.command isUnknownKind (fun _ => true) fun f n => n.answer f .unknownKind [])

/-- R168, R169: ASSIGN judged; one from a broadcast frame changes no address. -/
def Node.judgeAssign (f : Frame) (n : Node) : Node :=
  if n.li.address ≠ 0 then n.answer f .alreadyAssigned []
  else
    let a := (f.body.headD 0).toNat
    if a = 0 ∨ 60 < a then n.answer f .invalid []
    else if f.isBroadcast then n
    else (n.withLi { n.li with address := a }).answer f .ok []

/-- R168: ASSIGN. -/
def execAssign (s : State) : Host.Outcome State Fault Refusal :=
  s.onNode (Node.command (isKind 0x01) (lengthIs 2) Node.judgeAssign)

/-- R178, R185: what PING reports. -/
def Node.pingData (n : Node) : List Byte :=
  put1 n.li.address ++ put1 n.pc.power.code ++ put1 n.pc.cause.code ++ put2 n.seq.passCounter
    ++ put1 n.seq.st.code ++ put1 n.eq.st.code ++ put1 n.ft.activeCount
    ++ [flagBit 0 n.mu.inFlight ||| flagBit 1 n.ss.saving.isSome] ++ put1 n.ch.reasons.size

/-- R178: PING. -/
def execPing (s : State) : Host.Outcome State Fault Refusal :=
  s.onNode (Node.command (isKind 0x02) (lengthIs 1) fun f n => n.answer f .ok n.pingData)

/-- R178, R185: the identity record. -/
def Identity.bytes (i : Identity) : List Byte :=
  put1 0x2A ++ put2 0x1412 ++ [i.revision] ++ put4 i.serial.toNat ++ put1 Config.channels
    ++ [codeByte (some i.factoryTrim.cell), codeByte (some i.factoryTrim.aux), codeByte (some i.factoryTrim.stack)]

/-- R178: READ_IDENTITY. -/
def execReadIdentity (s : State) : Host.Outcome State Fault Refusal :=
  s.onNode (Node.command (isKind 0x03) (lengthIs 1) fun f n => n.answer f .ok n.identity.bytes)

/-- R173: the thirty-one counters in order. -/
def LinkInterface.counterBytes (l : LinkInterface) : List Byte :=
  l.laneRxS.counters.bytes ++ l.laneRxN.counters.bytes ++ l.laneTxS.counters.bytes ++ l.laneTxN.counters.bytes
    ++ put2 l.commandDrop ++ put2 l.replyDrop ++ put2 l.misaddressed

/-- R173: every counter set to 0. -/
def LinkInterface.clearCounters (l : LinkInterface) : LinkInterface :=
  { l with
    laneRxS := { l.laneRxS with counters := LaneCounters.zero }
    laneRxN := { l.laneRxN with counters := LaneCounters.zero }
    laneTxS := { l.laneTxS with counters := LaneCounters.zero }
    laneTxN := { l.laneTxN with counters := LaneCounters.zero }
    commandDrop := 0
    replyDrop := 0
    misaddressed := 0 }

/-- R173, R183: READ_LINK_COUNTERS judged; the counters reported are those before a *clear*. -/
def Node.judgeReadLinkCounters (f : Frame) (n : Node) : Node :=
  let options := f.body.headD 0
  if onlyBitsBelow 1 options then
    let m := n.answer f .ok n.li.counterBytes
    if options.getLsbD 0 then m.withLi m.li.clearCounters else m
  else n.answer f .invalid []

/-- R173: READ_LINK_COUNTERS. -/
def execReadLinkCounters (s : State) : Host.Outcome State Fault Refusal :=
  s.onNode (Node.command (isKind 0x04) (lengthIs 2) Node.judgeReadLinkCounters)

/-- R179: RESET_NODE: the soft reset and then the OK reply. -/
def execResetNode (s : State) : Host.Outcome State Fault Refusal :=
  s.onNode (Node.command (isKind 0x05) (lengthIs 1) fun f n => n.softReset.answer f .ok [])

end Sys2Proof.Machine
end

