-- ==== Sys2Proof/Machine/ResultCommands.lean ====
section
/-! DEFINITION. READ_RESULTS, READ_REPORT and CLEAR_EXTREMA (R48 to R55). -/

namespace Sys2Proof.Machine

/-- R49, R52: how many reply records one reply carries. -/
def recordLimit (detail : Bool) : Nat := if detail then 6 else 11

/-- R49: the reply records of the first codes of a list, each as the table stands. -/
def Node.replyRecords (n : Node) (detail : Bool) (codes : List Nat) : List Byte :=
  (codes.take (recordLimit detail)).flatMap fun src => replyRecord detail src (findRecord n.rt src)

/-- R49, R52: the number of records returned. -/
def returned (detail : Bool) (codes : List Nat) : Nat := min codes.length (recordLimit detail)

/-- R184: LENGTH of READ_RESULTS is 3 to 23. -/
def resultsLength (p : List Byte) : Bool := decide (3 ≤ p.length) && decide (p.length ≤ 23)

/-- R48, R49: READ_RESULTS judged. -/
def Node.judgeReadResults (f : Frame) (n : Node) : Node :=
  match f.body with
  | options :: rest =>
    let codes := rest.map fun b => b.toNat
    let detail := options.getLsbD 0
    if onlyBitsBelow 1 options && codes.all isSource then
      n.answer f .ok (put1 codes.length ++ put1 (returned detail codes) ++ n.replyRecords detail codes)
    else n.answer f .invalid []
  | [] => n.answer f .badLength []

/-- R48: READ_RESULTS. -/
def execReadResults (s : State) : Host.Outcome State Fault Refusal :=
  s.onNode (Node.command (isKind 0x30) resultsLength Node.judgeReadResults)

/-- R52: the reply to READ_REPORT of list `j` from position `start`. -/
def Node.reportData (n : Node) (j start : Nat) (detail : Bool) : List Byte :=
  let codes := (n.cfg.list j).drop start
  put1 j ++ put1 (n.cfg.list j).length ++ put1 start ++ put1 (returned detail codes) ++ n.replyRecords detail codes

/-- R52: READ_REPORT judged; an omitted start position is 0. -/
def Node.judgeReadReport (f : Frame) (n : Node) : Node :=
  match f.body with
  | j :: options :: rest =>
    let start := (rest.headD 0).toNat
    if onlyBitsBelow 1 options && decide (j.toNat ≤ 3) && decide (start ≤ 20) then
      n.answer f .ok (n.reportData j.toNat start (options.getLsbD 0))
    else n.answer f .invalid []
  | _ => n.answer f .badLength []

/-- R52: READ_REPORT. -/
def execReadReport (s : State) : Host.Outcome State Fault Refusal :=
  s.onNode (Node.command (isKind 0x31) (fun p => lengthIs 3 p || lengthIs 4 p) Node.judgeReadReport)

/-- R54: the extrema of the named sources become absent. -/
def clearExtremaOf (srcs : List Nat) (rt : List Record) : List Record :=
  rt.map fun r => if srcs.contains r.source then r.mapWritten fun w => { w with extrema := none } else r

/-- R54: CLEAR_EXTREMA judged. -/
def Node.judgeClearExtrema (f : Frame) (n : Node) : Node :=
  match f.body with
  | [m2, m1, m0] =>
    let srcs := sourcesOfMask (read3 m2 m1 m0)
    if srcs.all isSource then (n.withRt (clearExtremaOf srcs n.rt)).answer f .ok [] else n.answer f .invalid []
  | _ => n.answer f .badLength []

/-- R54: CLEAR_EXTREMA. -/
def execClearExtrema (s : State) : Host.Outcome State Fault Refusal :=
  s.onNode (Node.command (isKind 0x32) (lengthIs 4) Node.judgeClearExtrema)

end Sys2Proof.Machine
end

