-- ==== Sys2Proof/Machine/ScanCommands.lean ====
section
/-! DEFINITION. PLAN_WRITE, PLAN_READ, SCAN_START, SCAN_STOP and SCAN_STATUS (R19 to R21, R36 to R39). -/

namespace Sys2Proof.Machine

/-- R184: LENGTH of PLAN_WRITE is 5 + 2 × the step count. -/
def planLength (p : List Byte) : Bool :=
  match p[4]? with
  | none => false
  | some count => p.length == 5 + 2 * count.toNat

/-- R19: the plan of a PLAN_WRITE with steps, when every check passes at population `n`. -/
def readPlan (n : Nat) (mode i1 i0 count : Byte) (steps : List Byte) : Option Plan :=
  if 24 < count.toNat then none
  else
    match Mode.ofCode mode.toNat, readSteps steps with
    | some m, some l =>
      if l.all fun s => s.allowed n then some { mode := m, interval := read2 i1 i0, steps := l } else none
    | _, _ => none

/-- R19, R20: PLAN_WRITE judged. -/
def Node.judgePlanWrite (f : Frame) (n : Node) : Node :=
  match f.body with
  | mode :: i1 :: i0 :: count :: steps =>
    if count.toNat = 0 then (n.withSeq { n.seq with staged := none }).answer f .ok []
    else
      match readPlan n.cfg.population mode i1 i0 count steps with
      | none => n.answer f .invalid []
      | some p => (n.withSeq { n.seq with staged := some p }).answer f .ok []
  | _ => n.answer f .badLength []

/-- R19, R20: PLAN_WRITE. -/
def execPlanWrite (s : State) : Host.Outcome State Fault Refusal :=
  s.onNode (Node.command (isKind 0x20) planLength Node.judgePlanWrite)

/-- R21: the plan in a place: 0 ACTIVE, 1 STAGED. -/
def Sequencer.place (q : Sequencer) (place : Nat) : Option Plan := if place = 0 then q.active else q.staged

/-- R21: PLAN_READ judged. -/
def Node.judgePlanRead (f : Frame) (n : Node) : Node :=
  let place := (f.body.headD 0).toNat
  if 1 < place then n.answer f .invalid []
  else
    match n.seq.place place with
    | none => n.answer f .notFound []
    | some p => n.answer f .ok p.bytes

/-- R21: PLAN_READ. -/
def execPlanRead (s : State) : Host.Outcome State Fault Refusal :=
  s.onNode (Node.command (isKind 0x21) (lengthIs 2) Node.judgePlanRead)

/-- R36: SCAN_START judged. -/
def Node.judgeScanStart (f : Frame) (n : Node) : Node :=
  if n.seq.st ≠ .stopped ∨ n.mu.inFlight then n.answer f .busy []
  else if n.seq.staged.isNone && n.seq.active.isNone then n.answer f .noPlan []
  else (n.passStart true).answer f .ok []

/-- R36: SCAN_START. -/
def execScanStart (s : State) : Host.Outcome State Fault Refusal :=
  s.onNode (Node.command (isKind 0x22) (lengthIs 1) Node.judgeScanStart)

/-- R37: SCAN_STOP. -/
def execScanStop (s : State) : Host.Outcome State Fault Refusal :=
  s.onNode (Node.command (isKind 0x23) (lengthIs 1) fun f n => n.seqStop.answer f .ok [])

/-- R38, R185: what SCAN_STATUS reports. -/
def Sequencer.statusBytes (q : Sequencer) : List Byte :=
  put1 q.st.code ++ put1 (q.active.elim 0xFF fun p => (p.mode.code : Int)) ++ put1 q.epoch.toNat
    ++ put2 q.passCounter ++ [flagBit 0 q.passDone ||| flagBit 1 q.staged.isSome] ++ put2 q.late
    ++ put1 (q.stepIndex.getD 0)

/-- R38, R39: SCAN_STATUS judged; *take* clears PASS_DONE after its value has been placed in the reply. -/
def Node.judgeScanStatus (f : Frame) (n : Node) : Node :=
  let options := f.body.headD 0
  if onlyBitsBelow 1 options then
    let m := n.answer f .ok n.seq.statusBytes
    if options.getLsbD 0 then m.withSeq { m.seq with passDone := false } else m
  else n.answer f .invalid []

/-- R38: SCAN_STATUS. -/
def execScanStatus (s : State) : Host.Outcome State Fault Refusal :=
  s.onNode (Node.command (isKind 0x24) (lengthIs 2) Node.judgeScanStatus)

end Sys2Proof.Machine
end

