-- ==== Sys2Proof/Machine/StoreCommands.lean ====
section
/-! DEFINITION. STORE_SAVE and STORE_DEFAULTS (R189, R190). -/

namespace Sys2Proof.Machine

/-- R189: an accepted save takes its snapshot; the old image no longer passes its check. -/
def Node.beginSave (f : Frame) (n : Node) : Node :=
  n.withSs {
    image := none
    saving := some {
      snapshot := n.snapshot
      tag := f.tag
      broadcast := f.isBroadcast
      endsAt := n.now + Config.saveTime } }

/-- R189: STORE_SAVE judged. -/
def Node.judgeStoreSave (f : Frame) (n : Node) : Node :=
  if n.ss.saving.isSome then n.answer f .busy [] else n.beginSave f

/-- R189: STORE_SAVE. -/
def execStoreSave (s : State) : Host.Outcome State Fault Refusal :=
  s.onNode (Node.command (isKind 0x14) (lengthIs 1) Node.judgeStoreSave)

/-- R190: the conditions of STORE_DEFAULTS. -/
def Node.defaultsAllowed (n : Node) : Bool :=
  n.seq.st == .stopped && n.eq.st == .idle && !n.eq.hasStaged && !n.mu.inFlight

/-- R190: the factory values; a population that differs counts as a change taken (R69; log entry 20). -/
def Node.restoreDefaults (n : Node) : Node :=
  let changed := n.cfg.population != 14
  let n := n.withCfg Settings.factory
  let n := n.withLm (n.lm.write (List.range' 1 20) LimitCfg.factory)
  let n := n.withLm { n.lm with popMark := n.lm.popMark || changed }
  let n := n.withCu { n.cu with trim := n.identity.factoryTrim }
  n.silenceRestart

/-- R190: STORE_DEFAULTS judged. -/
def Node.judgeStoreDefaults (f : Frame) (n : Node) : Node :=
  if n.defaultsAllowed then n.restoreDefaults.answer f .ok [] else n.answer f .notAllowed []

/-- R190: STORE_DEFAULTS. -/
def execStoreDefaults (s : State) : Host.Outcome State Fault Refusal :=
  s.onNode (Node.command (isKind 0x15) (lengthIs 1) Node.judgeStoreDefaults)

end Sys2Proof.Machine
end

