-- ==== Sys2Proof/Machine/Supply.lean ====
section
/-! DEFINITION. The rows of supply, break and start-up (R170, R189, R191). -/

namespace Sys2Proof.Machine

/-- R191: POWER_ON_RESET. -/
def execPowerOnReset (dt : Nat) (s : State) : Host.Outcome State Fault Refusal :=
  s.onNode (Node.outside dt Node.powerOnReset)

/-- R170: a break is detected while lane 0 receives (log entry 24) and RX_S can have been low for 2 ms (log entry 32). -/
def Node.breakDetected (dt : Nat) (n : Node) : Node :=
  if n.pc.receiving && decide (n.li.rxSHigh + Config.breakTime ≤ (n.elapse dt).now) then n.outside dt Node.breakReset
  else n

/-- R170: BREAK_DETECTED. -/
def execBreakDetected (dt : Nat) (s : State) : Host.Outcome State Fault Refusal :=
  s.onNode (Node.breakDetected dt)

/-- R170: the end of the break drive. -/
def Node.breakDriveEnd (rxSHigh : Bool) (n : Node) : Node :=
  match n.pc.phase with
  | .breakDrive t =>
    n.timed (some t) fun _ n => if rxSHigh then n.beginStartUp else n.withPc { n.pc with phase := .breakWait }
  | .unpowered => n
  | .breakWait => n
  | .loading _ => n
  | .complete => n

/-- R170: BREAK_DRIVE_END. -/
def execBreakDriveEnd (rxSHigh : Bool) (s : State) : Host.Outcome State Fault Refusal :=
  s.onNode (Node.breakDriveEnd rxSHigh)

/-- R170: RX_S returns high after the drive has ended. -/
def Node.breakRelease (dt : Nat) (n : Node) : Node :=
  if n.pc.phase = .breakWait then n.outside dt Node.beginStartUp else n

/-- R170: BREAK_RELEASE. -/
def execBreakRelease (dt : Nat) (s : State) : Host.Outcome State Fault Refusal :=
  s.onNode (Node.breakRelease dt)

/-- R191: the end of the settings load. -/
def Node.loadEnd (n : Node) : Node :=
  match n.pc.phase with
  | .loading t => n.timed (some t) fun _ n => n.startUpComplete
  | .unpowered => n
  | .breakDrive _ => n
  | .breakWait => n
  | .complete => n

/-- R191: START_UP_COMPLETE. -/
def execStartUpComplete (s : State) : Host.Outcome State Fault Refusal := s.onNode Node.loadEnd

/-- R189: a fall of a supply that was there. -/
def Node.powerLoss (dt : Nat) (n : Node) : Node :=
  if n.pc.phase = .unpowered then n else n.outside dt Node.supplyLost

/-- R189: POWER_LOSS. -/
def execPowerLoss (dt : Nat) (s : State) : Host.Outcome State Fault Refusal := s.onNode (Node.powerLoss dt)

end Sys2Proof.Machine
end

