-- ==== Sys2Proof/Machine/Timers.lean ====
section
/-! DEFINITION. The rows of the node's own timers. -/

namespace Sys2Proof.Machine

/-- R4: the power-up settle ends. -/
def Node.cuSettleExpiry (n : Node) : Node :=
  match n.cu.st with
  | .powering t => n.timed (some t) fun _ n => n.enterIdle
  | .off => n
  | .idle => n
  | .converting _ => n
  | .recovering _ => n

/-- R4: CU_SETTLE_EXPIRY. -/
def execCuSettleExpiry (s : State) : Host.Outcome State Fault Refusal := s.onNode Node.cuSettleExpiry

/-- R6: a conversion completes with the reading `reading`. -/
def Node.conversionComplete (reading : Int) (n : Node) : Node :=
  match n.cu.st with
  | .converting c => n.timed (some c.endsAt) fun _ n => n.conversionEnds.deliver (c.sample reading)
  | .off => n
  | .powering _ => n
  | .idle => n
  | .recovering _ => n

/-- R6: CONVERSION_COMPLETE. -/
def execConversionComplete (reading : Int) (s : State) : Host.Outcome State Fault Refusal :=
  s.onNode (Node.conversionComplete reading)

/-- R8: the recovery ends. -/
def Node.cuRecoveryExpiry (n : Node) : Node :=
  match n.cu.st with
  | .recovering t => n.timed (some t) fun _ n => n.enterIdle
  | .off => n
  | .powering _ => n
  | .idle => n
  | .converting _ => n

/-- R8: CU_RECOVERY_EXPIRY. -/
def execCuRecoveryExpiry (s : State) : Host.Outcome State Fault Refusal := s.onNode Node.cuRecoveryExpiry

/-- R34: the due time expires in PASS_GAP. -/
def Node.passDueExpiry (n : Node) : Node :=
  n.timed n.seq.armedDue fun _ n =>
    if n.mu.inFlight then n.withSeq { n.seq with st := .deferred } else n.passStart false

/-- R34: PASS_DUE_EXPIRY. -/
def execPassDueExpiry (s : State) : Host.Outcome State Fault Refusal := s.onNode Node.passDueExpiry

/-- R130: what the requester does at its grant. -/
def Node.actOnGrant (who : Client) (n : Node) : Node :=
  match who with
  | .seq =>
    match n.seq.st, n.seq.stepIndex.bind n.planStep with
    | .quietWait, some s => n.seqConvert s
    | _, _ => n
  | .mu => if n.mu.st = .quietWait then n.muStart else n
  | .watch =>
    match n.pc.watchPass with
    | none => n
    | some w => if w.stage = .quietWait then n.watchStart else n

/-- R130: the request of `who` becomes GRANTED at its grant time. -/
def Node.quietGrant (who : Client) (n : Node) : Node :=
  match n.eq.quiet.get who with
  | none => n
  | some r =>
    n.timed r.waitingUntil fun _ n =>
      (n.withEq { n.eq with quiet := n.eq.quiet.set who (some { r with granted := true }) }).actOnGrant who

/-- R130: QUIET_GRANT. -/
def execQuietGrant (who : Client) (s : State) : Host.Outcome State Fault Refusal := s.onNode (Node.quietGrant who)

/-- R101: the current slot ends. -/
def Node.slotExpiry (n : Node) : Node := n.timed n.eq.slotEnd Node.slotBoundary

/-- R101: SLOT_BOUNDARY. -/
def execSlotBoundary (s : State) : Host.Outcome State Fault Refusal := s.onNode Node.slotExpiry

/-- R148, part 3: the span conversion with injection on is requested. -/
def Node.injectSettled (n : Node) : Node :=
  match n.mu.op with
  | none => n
  | some o =>
    match o.body with
    | .trim _ => n
    | .line l => (n.withMu { n.mu with st := .spanOn }).convRequest .mu (.lineSpan l.a l.b .normal)

/-- R148: INJECT_SETTLE_EXPIRY. -/
def execInjectSettleExpiry (s : State) : Host.Outcome State Fault Refusal :=
  s.onNode fun n => n.timed n.mu.st.expiry fun _ n => n.injectSettled

/-- R171: LINK_SILENT is raised, the Equalizer enters SAFE_STOP, the timer stays stopped. -/
def Node.linkSilence (n : Node) : Node :=
  let n := n.withLi { n.li with silence := none }
  (n.raiseFault .linkSilent 0 n.seq.passCounter none).safeStop

/-- R171: LINK_SILENCE_EXPIRY. -/
def execLinkSilenceExpiry (s : State) : Host.Outcome State Fault Refusal :=
  s.onNode fun n => n.timed n.li.silence fun _ n => n.linkSilence

/-- R189: the end of a save. -/
def Node.saveEnd (v : Saving) (n : Node) : Node :=
  let n := (n.withSs { image := some v.snapshot, saving := none }).clearFault .storeInvalid 0
  if v.broadcast then n else n.completionReply .store (n.replyFrame 0x14 v.tag .ok [])

/-- R189: the save in progress completes. -/
def Node.saveExpiry (n : Node) : Node :=
  match n.ss.saving with
  | none => n
  | some v => n.timed (some v.endsAt) fun _ n => n.saveEnd v

/-- R189: STORE_SAVE_COMPLETE. -/
def execStoreSaveComplete (s : State) : Host.Outcome State Fault Refusal := s.onNode Node.saveExpiry

/-- R194: WATCH_TIMER_EXPIRY. -/
def execWatchTimerExpiry (s : State) : Host.Outcome State Fault Refusal :=
  s.onNode fun n => n.timed n.pc.watchTimer fun _ n => n.watchPassStart

/-- R181: ALERT_HOLDOFF_EXPIRY: the ALERT becomes due, and the end of the event queues it when it has a place. -/
def execAlertHoldoffExpiry (s : State) : Host.Outcome State Fault Refusal :=
  s.onNode fun n => n.timed n.alertExpiry fun _ n => n

/-- R166: TX_N_FRAME_SENT. -/
def execTxNFrameSent (s : State) : Host.Outcome State Fault Refusal :=
  s.onNode fun n => n.timed n.li.txN fun _ n => n.northSent

/-- R167: the transmission on TX_S ends. -/
def Node.txSExpiry (n : Node) : Node :=
  match n.li.txS with
  | none => n
  | some t => n.timed (some t.endsAt) fun _ n => n.southSent t.sender

/-- R167: TX_S_FRAME_SENT. -/
def execTxSFrameSent (s : State) : Host.Outcome State Fault Refusal := s.onNode Node.txSExpiry

end Sys2Proof.Machine
end

