-- ==== Sys2Proof/Machine/Dispatch.lean ====
section
/-! DEFINITION. What each command does: one arm for each row of spec/opcode_table.json. -/

namespace Sys2Proof.Machine

/-- The effect of a command on everything but the queue of commands that wait. -/
def exec (i : Instr) (s : State) : Host.Outcome State Fault Refusal :=
  match i with
  | .powerOnReset dt => Sys2Proof.Machine.execPowerOnReset dt s
  | .breakDetected dt => Sys2Proof.Machine.execBreakDetected dt s
  | .breakDriveEnd rxSHigh => Sys2Proof.Machine.execBreakDriveEnd rxSHigh s
  | .breakRelease dt => Sys2Proof.Machine.execBreakRelease dt s
  | .startUpComplete => Sys2Proof.Machine.execStartUpComplete s
  | .cuSettleExpiry => Sys2Proof.Machine.execCuSettleExpiry s
  | .conversionComplete reading => Sys2Proof.Machine.execConversionComplete reading s
  | .cuRecoveryExpiry => Sys2Proof.Machine.execCuRecoveryExpiry s
  | .passDueExpiry => Sys2Proof.Machine.execPassDueExpiry s
  | .quietGrant who => Sys2Proof.Machine.execQuietGrant who s
  | .slotBoundary => Sys2Proof.Machine.execSlotBoundary s
  | .injectSettleExpiry => Sys2Proof.Machine.execInjectSettleExpiry s
  | .linkSilenceExpiry => Sys2Proof.Machine.execLinkSilenceExpiry s
  | .storeSaveComplete => Sys2Proof.Machine.execStoreSaveComplete s
  | .watchTimerExpiry => Sys2Proof.Machine.execWatchTimerExpiry s
  | .alertHoldoffExpiry => Sys2Proof.Machine.execAlertHoldoffExpiry s
  | .frameReceivedSouth dt sym => Sys2Proof.Machine.execFrameReceivedSouth dt sym s
  | .frameReceivedNorth dt sym => Sys2Proof.Machine.execFrameReceivedNorth dt sym s
  | .frameReadBack dt lane sym => Sys2Proof.Machine.execFrameReadBack dt lane sym s
  | .framingError dt lane sym => Sys2Proof.Machine.execFramingError dt lane sym s
  | .lengthError dt lane sym => Sys2Proof.Machine.execLengthError dt lane sym s
  | .truncatedFrame dt lane sym => Sys2Proof.Machine.execTruncatedFrame dt lane sym s
  | .crcMismatch dt lane sym => Sys2Proof.Machine.execCrcMismatch dt lane sym s
  | .gapTimeout lane => Sys2Proof.Machine.execGapTimeout lane s
  | .txNFrameSent => Sys2Proof.Machine.execTxNFrameSent s
  | .txSFrameSent => Sys2Proof.Machine.execTxSFrameSent s
  | .unknownKindCommand => Sys2Proof.Machine.execUnknownKindCommand s
  | .assign => Sys2Proof.Machine.execAssign s
  | .ping => Sys2Proof.Machine.execPing s
  | .readIdentity => Sys2Proof.Machine.execReadIdentity s
  | .readLinkCounters => Sys2Proof.Machine.execReadLinkCounters s
  | .resetNode => Sys2Proof.Machine.execResetNode s
  | .configWritePopulation => Sys2Proof.Machine.execConfigWritePopulation s
  | .configWriteAuxRole => Sys2Proof.Machine.execConfigWriteAuxRole s
  | .configWriteSumTol => Sys2Proof.Machine.execConfigWriteSumTol s
  | .configWriteQuietSettle => Sys2Proof.Machine.execConfigWriteQuietSettle s
  | .configWriteEqFrame => Sys2Proof.Machine.execConfigWriteEqFrame s
  | .configWriteSilenceTimeout => Sys2Proof.Machine.execConfigWriteSilenceTimeout s
  | .configWriteAlertEnable => Sys2Proof.Machine.execConfigWriteAlertEnable s
  | .configWriteAlertHoldoff => Sys2Proof.Machine.execConfigWriteAlertHoldoff s
  | .configWriteWatchInterval => Sys2Proof.Machine.execConfigWriteWatchInterval s
  | .configWriteLineThreshold => Sys2Proof.Machine.execConfigWriteLineThreshold s
  | .configWriteAutostart => Sys2Proof.Machine.execConfigWriteAutostart s
  | .configWriteReportList => Sys2Proof.Machine.execConfigWriteReportList s
  | .configRead => Sys2Proof.Machine.execConfigRead s
  | .limitWrite => Sys2Proof.Machine.execLimitWrite s
  | .limitRead => Sys2Proof.Machine.execLimitRead s
  | .storeSave => Sys2Proof.Machine.execStoreSave s
  | .storeDefaults => Sys2Proof.Machine.execStoreDefaults s
  | .planWrite => Sys2Proof.Machine.execPlanWrite s
  | .planRead => Sys2Proof.Machine.execPlanRead s
  | .scanStart => Sys2Proof.Machine.execScanStart s
  | .scanStop => Sys2Proof.Machine.execScanStop s
  | .scanStatus => Sys2Proof.Machine.execScanStatus s
  | .readResults => Sys2Proof.Machine.execReadResults s
  | .readReport => Sys2Proof.Machine.execReadReport s
  | .clearExtrema => Sys2Proof.Machine.execClearExtrema s
  | .faultRead => Sys2Proof.Machine.execFaultRead s
  | .faultAck => Sys2Proof.Machine.execFaultAck s
  | .faultAckCleared => Sys2Proof.Machine.execFaultAckCleared s
  | .eqSet => Sys2Proof.Machine.execEqSet s
  | .eqStop => Sys2Proof.Machine.execEqStop s
  | .eqResume => Sys2Proof.Machine.execEqResume s
  | .eqRead => Sys2Proof.Machine.execEqRead s
  | .trim => Sys2Proof.Machine.execTrim s
  | .lineCheck => Sys2Proof.Machine.execLineCheck s
  | .maintAbort => Sys2Proof.Machine.execMaintAbort s
  | .standby => Sys2Proof.Machine.execStandby s
  | .symbolReceived dt lane sym => Sys2Proof.Machine.execSymbolReceived dt lane sym s
  | .powerLoss dt => Sys2Proof.Machine.execPowerLoss dt s

end Sys2Proof.Machine
end

