-- ==== Sys2Proof/Safety.lean ====
section
/-! DEFINITION. The laws of the node, each an invariant that Certificates/Slice0/Obligations.lean states of every
step, and the words in which the statements there speak of an event: when it can occur and how it ends. -/

namespace Sys2Proof.Machine

namespace Node

/-- R102: a bleed switch is closed only while the Equalizer is RUNNING, the slot lies in the channel's window, its
budget is above 0, no quiet request holds it and it is not inhibited. -/
abbrev SwitchLaw (n : Node) : Prop := ∀ c ∈ n.eq.channels, c.closed = true → n.mayClose n.eq.slot c = true

/-- The Equalizer holds one record for each channel, 1 to 14, in order (R99). -/
abbrev ChannelLaw (n : Node) : Prop := n.eq.channels.map Channel.num = channelNumbers

/-- R103: two adjacent channels are never both closed. -/
abbrev AdjacentLaw (n : Node) : Prop :=
  ∀ c ∈ n.eq.channels, ∀ d ∈ n.eq.channels, d.num = c.num + 1 → ¬(c.closed = true ∧ d.closed = true)

/-- R96: what each state of the Equalizer says of budgets, switches and the frame timer. -/
abbrev EqStateLaw (n : Node) : Prop :=
  (n.eq.st = .idle → n.eq.owes = false) ∧ (n.eq.st = .running → n.eq.owes = true)
    ∧ (n.eq.st = .disabled → n.eq.slotEnd = none)
    ∧ (n.eq.preStandby.isSome = true ↔ n.eq.st = .disabled)
    ∧ (n.eq.st ≠ .running → ∀ c ∈ n.eq.channels, c.closed = false)

/-- R99: the ranges of a channel's duty, budget and staged values. -/
abbrev ChannelRanges (n : Node) : Prop :=
  ∀ c ∈ n.eq.channels, c.duty ≤ Config.dutyMax ∧ c.budget ≤ Config.budgetMax
    ∧ (∀ v ∈ c.staged, v.duty ≤ Config.dutyMax ∧ v.budget ≤ Config.budgetMax)

/-- R165: the capacities of the queues and buffers; R177: the pending reply list has room for the replies that the
operation in flight and the save in progress still owe. -/
abbrev CapacityLaw (n : Node) : Prop :=
  n.ch.cmdQueue.length ≤ Config.commandQueueCap ∧ n.ch.replyQueue.length ≤ Config.replyQueueCap
    ∧ n.li.north.length ≤ Config.forwardCap ∧ n.li.south.length ≤ Config.forwardCap
    ∧ n.ch.pendingReplies.length + n.mu.op.isSome.toNat + n.ss.saving.isSome.toNat ≤ 2

/-- R80: at most 32 entries, never two with the same kind and source, at most one ACTIVE LINE_OPEN entry. -/
abbrev FaultTableLaw (n : Node) : Prop :=
  n.ft.entries.length ≤ Config.faultCap
    ∧ (n.ft.entries.map fun e => (e.kind, e.source)).Nodup
    ∧ (n.ft.entries.countP fun e => e.kind == .lineOpen && e.active) ≤ 1

/-- The table of limit records has one record for each source in order (R59, R64). -/
abbrev LimitTableLaw (n : Node) : Prop := n.lm.recs.map LimitRec.source = sourceCodes

/-- The Result Table has one record for each source in order (R44). -/
abbrev ResultTableLaw (n : Node) : Prop := n.rt.map Record.source = sourceCodes

end Node

/-- The kinds a limit state raises (R68, R79). -/
def FaultKind.isLimit : FaultKind → Bool
  | .cellHigh => true
  | .cellLow => true
  | .auxHigh => true
  | .auxLow => true
  | .stackHigh => true
  | .stackLow => true
  | .dieHot => true
  | .dieCold => true
  | .refFault => true
  | .sumMismatch => false
  | .lineOpen => false
  | .trimRail => false
  | .linkSilent => false
  | .storeInvalid => false

/-- R68: the state of the record is the one that raises the kind. -/
def LimitRec.raises (r : LimitRec) (k : FaultKind) : Bool :=
  (r.st == .high && highKind r.source == k) || (r.st == .low && lowKind r.source == k)

/-- R79: the sources of the kinds that no limit state raises. -/
def FaultEntry.otherSource (e : FaultEntry) : Bool :=
  match e.kind with
  | .sumMismatch => e.source == 0
  | .linkSilent => e.source == 0
  | .storeInvalid => e.source == 0
  | .trimRail => decide (1 ≤ e.source) && decide (e.source ≤ 3)
  | _ => true

namespace Node

/-- R68: a source in HIGH or LOW has an ACTIVE entry of the matching kind, and an ACTIVE entry of a limit kind names a
source in the matching state. -/
abbrev LimitFaultLaw (n : Node) : Prop :=
  (∀ r ∈ n.lm.recs, (r.st = .high → n.ft.isActive (highKind r.source) r.source = true)
    ∧ (r.st = .low → n.ft.isActive (lowKind r.source) r.source = true))
  ∧ (∀ e ∈ n.ft.entries, e.active = true → e.kind.isLimit = true →
      ∃ r ∈ n.lm.recs, r.source = e.source ∧ r.raises e.kind = true)

/-- What the argument of 5.4 rests on: R80, R68, and the sources of the other kinds. -/
abbrev FaultLaws (n : Node) : Prop :=
  n.FaultTableLaw ∧ n.LimitTableLaw ∧ n.LimitFaultLaw ∧ (∀ e ∈ n.ft.entries, e.otherSource = true)

end Node

namespace Channel

/-- The channel is open, and its open-since and the settle time `settle` are over by `t`. -/
abbrev settledBy (c : Channel) (settle t : Nat) : Prop := c.closed = false ∧ c.openSince + settle ≤ t

end Channel

namespace Node

/-- R129, R130: every channel of a request is open, and is settled by its grant time; a GRANTED request's grant time
has come. -/
abbrev QuietLaw (n : Node) : Prop :=
  ∀ who, ∀ r ∈ n.eq.quiet.get who,
    (∀ c ∈ n.eq.channels, r.set.contains c.num = true → c.settledBy r.settle r.grantAt)
      ∧ (r.granted = true → r.grantAt ≤ n.now)

/-- The clock never passes an armed expiry (log entry 4). -/
abbrev TimeLaw (n : Node) : Prop := ∀ d ∈ n.deadlines, n.now ≤ d

end Node

/-- R51: a report list. -/
abbrev listLegal (l : List Nat) : Prop := l.length ≤ 21 ∧ l.Nodup ∧ ∀ c ∈ l, isSource c = true

/-- R186: every item holds one of its values. -/
abbrev Settings.Legal (c : Settings) : Prop :=
  (4 ≤ c.population ∧ c.population ≤ 14) ∧ c.sumTol ≤ 65535 ∧ c.quietSettle ≤ 15 ∧ isFrameLength c.eqFrame = true
    ∧ c.silenceTimeout ≤ 255 ∧ c.alertHoldoff ≤ 255 ∧ c.watchInterval ≤ 3600
    ∧ (1 ≤ c.lineThreshold ∧ c.lineThreshold ≤ 65535)
    ∧ listLegal c.list0 ∧ listLegal c.list1 ∧ listLegal c.list2 ∧ listLegal c.list3

/-- R140 to R143: what the clients of the converter and the maintenance unit say of each other. While a maintenance
operation is in flight the sequencer converts nothing, and the operation holds the converter or waits for it. -/
abbrev Node.ClientLaw (n : Node) : Prop :=
  (n.mu.st ≠ .idle → n.seq.st = .stopped ∨ n.seq.st = .passGap ∨ n.seq.st = .deferred)
    ∧ (n.mu.st ≠ .idle → n.cu.holder = some .mu ∨ .mu ∈ n.cu.waiting)
    ∧ (.mu ∈ n.cu.waiting → n.mu.st = .leaseWait)
    ∧ (.seq ∈ n.cu.waiting → n.seq.st = .waitingCu)
    ∧ (n.pc.power ≠ .active → n.mu.st = .idle)

/-- R96, R191: the power state follows start-up, and the Equalizer is DISABLED exactly in standby. -/
abbrev Node.PowerLaw (n : Node) : Prop :=
  (n.pc.phase = .complete ↔ n.pc.power ≠ .starting) ∧ (n.pc.power = .standby ↔ n.eq.st = .disabled)

/-- The settings in force, those of the store image and those of a save's snapshot are legal (R186, R188, R189). -/
abbrev Node.SettingsLaw (n : Node) : Prop :=
  n.cfg.Legal ∧ (∀ im ∈ n.ss.image, im.settings.Legal) ∧ (∀ v ∈ n.ss.saving, v.snapshot.settings.Legal)

/-! ### Events -/

namespace Node

/-- R176: the Command Handler can take the frame `f`; `rest` stands behind it. -/
abbrev Takes (n : Node) (f : Frame) (rest : List Frame) : Prop :=
  n.ch.cmdQueue = f :: rest ∧ n.pc.power = .active ∧ n.ch.replyQueue.length < 4 ∧ n.ch.pendingReplies = []

/-- The node once the frame at the front has left the command queue. -/
def left (n : Node) (rest : List Frame) : Node := n.withCh { n.ch with cmdQueue := rest }

/-- An expiry at the moment `t` is the next thing that happens of itself (log entry 4). -/
abbrev Due (n : Node) (t : Nat) : Prop := n.now ≤ t ∧ ∀ d ∈ n.deadlines, t ≤ d

/-- Nothing happens of itself before `dt` has passed (log entry 4). -/
abbrev Calm (n : Node) (dt : Nat) : Prop := ∀ d ∈ n.deadlines, n.now + dt ≤ d

end Node

/-- R159: the lane hears a symbol that ends at the moment `t`: its start bit is taken low and came after the end of the last
symbol; after a framing error, not before the line had been high for one full bit time. -/
abbrev LaneState.Hears (l : LaneState) (t : Nat) (y : LineSymbol) : Prop :=
  y.majority.getLsbD 0 = false ∧ l.lastEnd + 11 ≤ t ∧ (l.waiting = true → y.afterHigh = true ∧ l.lastEnd + 12 ≤ t)

/-- The outcome of an event that leaves the node `n`, with the end every event has (log entry 9). -/
def State.ends (s : State) (n : Node) : Host.Outcome State Fault Refusal := .next { s with toNode := n.finish }

end Sys2Proof.Machine
end

