-- ==== Sys2Proof/Certificates/Slice0/Obligations.lean ====
section
/-! DEFINITION. The statements. Each is about a step or an event of the machine, in the words of Safety.lean: `Takes`
(R176), `left`, `Due` and `Calm` (the clock of log entry 4) and `ends` (the end of an event, log entry 9). -/

section

open Sys2Proof Sys2Proof.Machine

/-! ### The step, the rows and the end of an event -/

/-- A step takes the command at the front of the queue and is `exec` of it on the state with the queue's rest; with no
command waiting the block idles (DESIGN CHOICE, log entry 3). -/
def Obligations.StepTakesTheFrontCommand : Prop :=
  (∀ (c : Instr) (rest : List Instr) (s : State), s.pending = c :: rest → step s = exec c (s.withPending rest))
    ∧ ∀ s : State, s.pending = [] → step s = .next s

/-- Every command answers a next state in every state, and leaves the waiting commands as they are. (It rests on log
entry 2, the model's own choices.) -/
def Obligations.EveryCommandCompletes : Prop :=
  ∀ (c : Instr) (s : State), ∃ t, exec c s = .next t ∧ t.pending = s.pending

/-- The rows of the Command Handler whose kind has one payload layout: the row, its KIND, the lengths that fit (10.3,
R184). -/
def Sys2Proof.Machine.fixedRows : List (Instr × Byte × (Nat → Bool)) :=
  [(.assign, 0x01, fun l => l == 2), (.ping, 0x02, fun l => l == 1), (.readIdentity, 0x03, fun l => l == 1),
    (.readLinkCounters, 0x04, fun l => l == 2), (.resetNode, 0x05, fun l => l == 1),
    (.configRead, 0x11, fun l => l == 2 || l == 3), (.limitWrite, 0x12, fun l => l == 10),
    (.limitRead, 0x13, fun l => l == 2), (.storeSave, 0x14, fun l => l == 1), (.storeDefaults, 0x15, fun l => l == 1),
    (.planRead, 0x21, fun l => l == 2), (.scanStart, 0x22, fun l => l == 1), (.scanStop, 0x23, fun l => l == 1),
    (.scanStatus, 0x24, fun l => l == 2), (.readResults, 0x30, fun l => 3 ≤ l && l ≤ 23),
    (.readReport, 0x31, fun l => l == 3 || l == 4), (.clearExtrema, 0x32, fun l => l == 4),
    (.faultRead, 0x40, fun l => l == 3), (.faultAck, 0x41, fun l => l == 4), (.faultAckCleared, 0x42, fun l => l == 1),
    (.eqSet, 0x50, fun l => 6 ≤ l && l ≤ 71 && l % 5 == 1), (.eqStop, 0x51, fun l => l == 1),
    (.eqResume, 0x52, fun l => l == 1), (.eqRead, 0x53, fun l => l == 2), (.trim, 0x60, fun l => l == 2),
    (.lineCheck, 0x61, fun l => l == 1), (.maintAbort, 0x62, fun l => l == 1), (.standby, 0x70, fun l => l == 1)]

/-- The CONFIG_WRITE rows: the row, the item ids it is about, the width of the value field (R184). -/
def Sys2Proof.Machine.writeRows : List (Instr × Nat × Nat × Nat) :=
  [(.configWritePopulation, 1, 1, 1), (.configWriteAuxRole, 2, 5, 1), (.configWriteSumTol, 6, 6, 2),
    (.configWriteQuietSettle, 7, 7, 1), (.configWriteEqFrame, 8, 8, 2), (.configWriteSilenceTimeout, 9, 9, 1),
    (.configWriteAlertEnable, 10, 10, 1), (.configWriteAlertHoldoff, 11, 11, 1), (.configWriteWatchInterval, 12, 12, 2),
    (.configWriteLineThreshold, 13, 13, 2), (.configWriteAutostart, 14, 14, 1)]

/-- Every row of the Command Handler. -/
def Sys2Proof.Machine.commandRows : List Instr :=
  fixedRows.map (fun r => r.1) ++ writeRows.map (fun r => r.1) ++ [.configWriteReportList, .planWrite, .unknownKindCommand]

/-- No command is taken while a condition of R176 fails: the frames stay in the queue and the row changes nothing. A
row also changes nothing while the frame at the front is of another kind (log entry 2). (It rests on log entries 2 and
26, the model's own choices.) -/
def Obligations.CommandsWaitForTheirConditions : Prop :=
  (∀ c ∈ commandRows, ∀ s : State,
      s.pc.power ≠ .active ∨ 4 ≤ s.ch.replyQueue.length ∨ s.ch.pendingReplies ≠ [] ∨ s.ch.cmdQueue = [] →
      exec c s = .next s)
    ∧ (∀ r ∈ fixedRows, ∀ (s : State) (f : Frame) (rest : List Frame),
        s.ch.cmdQueue = f :: rest → f.kind ≠ r.2.1 → exec r.1 s = .next s)
    ∧ (∀ r ∈ writeRows, ∀ (s : State) (f : Frame) (rest : List Frame),
        s.ch.cmdQueue = f :: rest → f.kind ≠ 0x10 → exec r.1 s = .next s)
    ∧ (∀ (s : State) (f : Frame) (rest : List Frame), s.ch.cmdQueue = f :: rest →
        (f.kind ≠ 0x10 → exec .configWriteReportList s = .next s) ∧ (f.kind ≠ 0x20 → exec .planWrite s = .next s))

/-- The first two checks of R175: a command of an unknown kind is refused UNKNOWN_KIND whatever its length, and one of
a known kind whose LENGTH does not fit the layout of R184 is refused BAD_LENGTH; nothing else changes. R175, R169: the
form of a reply. It joins the end of the reply queue with the node's own address as origin, the command's KIND plus
0x80 (0xFF for a KIND of 0x80 or above) and the tag, the status and the data as payload; the tag of a frame with
LENGTH 0 is 0. A command from a broadcast frame gets none. (That the row for unknown kinds changes nothing while a
known KIND is in front is the model's own choice, log entry 2.) -/
def Obligations.RepliesAndTheFirstRefusals : Prop :=
  (∀ (s : State) (f : Frame) (rest : List Frame), s.Takes f rest →
    (f.kind ∉ commandKinds → exec .unknownKindCommand s = s.ends ((s.left rest).answer f .unknownKind []))
      ∧ (f.kind ∈ commandKinds → exec .unknownKindCommand s = .next s)
      ∧ (∀ r ∈ fixedRows, f.kind = r.2.1 → r.2.2 f.payload.length = false →
          exec r.1 s = s.ends ((s.left rest).answer f .badLength [])))
    ∧ (∀ (n : Node) (f : Frame) (st : Status) (data : List Byte),
    (f.address = 63 → n.answer f st data = n)
      ∧ (f.address ≠ 63 → n.answer f st data = n.withCh { n.ch with
          replyQueue := n.ch.replyQueue ++ [{
            address := BitVec.ofNat 8 n.li.address
            kind := if f.kind.toNat < 0x80 then f.kind + 0x80 else 0xFF
            payload := (match f.payload with
              | [] => 0
              | tag :: _ => tag) :: st.code :: data }] }))

/-- R73: a condition that inhibits every channel holds: DIETEMP HIGH, an auxiliary input of a heat role in the state
of its role, an ACTIVE SUM_MISMATCH, an ACTIVE REF_FAULT (with the sources of R79). -/
abbrev Sys2Proof.Machine.Node.InhibitsEvery (n : Node) : Prop :=
  (∃ r ∈ n.lm.recs, r.source = 20 ∧ r.st = .high)
    ∨ (∃ a ∈ [(15, n.cfg.role1), (16, n.cfg.role2), (17, n.cfg.role3), (18, n.cfg.role4)], ∃ r ∈ n.lm.recs,
        r.source = a.1 ∧ ((a.2 = .heatIfHigh ∧ r.st = .high) ∨ (a.2 = .heatIfLow ∧ r.st = .low)))
    ∨ (∃ e ∈ n.ft.entries, e.active = true
        ∧ ((e.kind = .sumMismatch ∧ e.source = 0) ∨ (e.kind = .refFault ∧ e.source = 21)))

/-- R73: a condition that inhibits channel `k` holds: CELLk LOW, or an ACTIVE LINE_OPEN for line k or k − 1. -/
abbrev Sys2Proof.Machine.Node.InhibitsOne (n : Node) (k : Nat) : Prop :=
  (∃ r ∈ n.lm.recs, r.source = k ∧ r.st = .low)
    ∨ (∃ e ∈ n.ft.entries, e.active = true ∧ e.kind = .lineOpen ∧ (e.source = k ∨ e.source + 1 = k))

/-- R104: at the end of every event each closed switch that may not stay closed is open, with its open-since set to
the moment, and no switch closes. R73: a channel within 1 to the population is inhibited exactly while one of the
conditions of R73 holds for it. Nothing else changes but the queues of the Command Handler and the two transmitters
(the next two statements). (It rests on log entries 9 and 10, the model's own choices.) -/
def Obligations.SwitchesOpenAtTheEndOfAnEvent : Prop :=
  (∀ n : Node,
    n.finish.now = n.now ∧ n.finish.identity = n.identity ∧ n.finish.cfg = n.cfg ∧ n.finish.cu = n.cu
      ∧ n.finish.seq = n.seq ∧ n.finish.rt = n.rt ∧ n.finish.lm = n.lm ∧ n.finish.ft = n.ft ∧ n.finish.mu = n.mu
      ∧ n.finish.ss = n.ss ∧ n.finish.pc = n.pc
      ∧ n.finish.eq = { n.eq with channels := n.eq.channels.map fun c =>
          if c.closed = true ∧ ¬(n.eq.st = .running ∧ inWindow c.num c.duty n.eq.slot = true ∧ 0 < c.budget
              ∧ n.eq.quiet.holds c.num = false ∧ n.inhibited c.num = false)
          then { c with closed := false, openSince := n.now, kept := decide (n.eq.slotEnd = some n.now) } else c })
    ∧ ∀ (n : Node) (k : Nat), n.LimitTableLaw → (n.inhibited k = true
        ↔ 1 ≤ k ∧ k ≤ n.cfg.population ∧ (n.InhibitsEvery ∨ n.InhibitsOne k))

/-- An ALERT is due (R181). -/
abbrev Sys2Proof.Machine.Node.AlertIsDue (n : Node) : Prop :=
  (n.ch.reasons.faultNew = true ∨ n.ch.reasons.eqFinished = true ∨ n.ch.reasons.watchWake = true)
    ∧ n.cfg.alertEnable = true ∧ n.li.address ≠ 0 ∧ n.pc.power = .active
    ∧ (∀ t ∈ n.ch.lastAlert, t + n.cfg.alertHoldoff * 10000 ≤ n.now)

/-- R177, R181: the order of claim at the end of an event. The oldest pending completion replies take the free places
of the reply queue; then a due ALERT takes one, if one is left, carrying the reasons, the ACTIVE count and the two
states, and the pending set is emptied and the moment recorded. Without one the reasons stay. (It rests on log entry
9, the model's own choices.) -/
def Obligations.ReplyPlacesAreClaimedInOrder : Prop :=
  ∀ n : Node,
    n.finish.ch.cmdQueue = n.ch.cmdQueue
      ∧ n.finish.ch.pendingReplies = n.ch.pendingReplies.drop (4 - n.ch.replyQueue.length)
      ∧ (n.AlertIsDue ∧ n.ch.replyQueue.length + n.ch.pendingReplies.length < 4 →
          n.finish.ch.replyQueue = n.ch.replyQueue ++ n.ch.pendingReplies.map (fun p => p.frame) ++ [{
              address := BitVec.ofNat 8 n.li.address
              kind := 0xF0
              payload := [BitVec.ofNat 8 (n.ch.reasons.faultNew.toNat + 2 * n.ch.reasons.eqFinished.toNat
                    + 4 * n.ch.reasons.watchWake.toNat),
                  BitVec.ofNat 8 n.ft.activeCount, BitVec.ofNat 8 n.eq.st.code, BitVec.ofNat 8 n.seq.st.code] }]
            ∧ n.finish.ch.reasons = { faultNew := false, eqFinished := false, watchWake := false }
            ∧ n.finish.ch.lastAlert = some n.now)
      ∧ (¬(n.AlertIsDue ∧ n.ch.replyQueue.length + n.ch.pendingReplies.length < 4) →
          n.finish.ch.replyQueue = n.ch.replyQueue
              ++ (n.ch.pendingReplies.take (4 - n.ch.replyQueue.length)).map (fun p => p.frame)
            ∧ n.finish.ch.reasons = n.ch.reasons ∧ n.finish.ch.lastAlert = n.ch.lastAlert)

/-- How long a frame lasts on the line (R160). -/
def Sys2Proof.Machine.lineTime (f : Frame) : Nat := (f.payload.length + 5) * 11

/-- R166, R167: a free transmitter starts at the end of an event. TX_N sends the front of the north forward buffer.
TX_S sends the front of the reply queue or of the south forward buffer, and of the one that was not the last sender
when both hold a frame; the last sender becomes the source of the frame. A transmission in progress goes on. (It rests
on log entry 9, the model's own choices.) -/
def Obligations.FreeTransmittersStart : Prop :=
  ∀ n : Node,
    (∀ e ∈ n.li.txN, n.finish.li.txN = some e)
      ∧ (n.li.txN = none → n.finish.li.txN = n.li.north.head?.map fun f => n.now + lineTime f)
      ∧ (∀ e ∈ n.li.txS, n.finish.li.txS = some e ∧ n.finish.li.lastSender = n.li.lastSender)
      ∧ (n.li.txS = none → n.finish.ch.replyQueue = [] → n.li.south = [] →
          n.finish.li.txS = none ∧ n.finish.li.lastSender = n.li.lastSender)
      ∧ (∀ r ∈ n.finish.ch.replyQueue.head?, n.li.txS = none → n.li.south = [] ∨ n.li.lastSender = .forward →
          n.finish.li.txS = some { sender := .reply, endsAt := n.now + lineTime r }
            ∧ n.finish.li.lastSender = .reply)
      ∧ (∀ f ∈ n.li.south.head?, n.li.txS = none → n.finish.ch.replyQueue = [] ∨ n.li.lastSender = .reply →
          n.finish.li.txS = some { sender := .forward, endsAt := n.now + lineTime f }
            ∧ n.finish.li.lastSender = .forward)
      ∧ n.finish.li = { n.li with
          txN := n.finish.li.txN, txS := n.finish.li.txS, lastSender := n.finish.li.lastSender }

/-! ### Commands of the node -/

/-- R168, R169: ASSIGN. An unassigned node takes an address from 1 to 60 and answers with it as origin; another address
is refused INVALID; an assigned node answers ALREADY_ASSIGNED and keeps its address; an ASSIGN from a broadcast frame
changes no address and is not answered. -/
def Obligations.AssignGivesAnUnassignedNodeItsAddress : Prop :=
  ∀ (s : State) (f : Frame) (rest : List Frame) (tag a : Byte), s.Takes f rest → f.kind = 0x01 → f.payload = [tag, a] →
    (s.li.address = 0 → 1 ≤ a.toNat → a.toNat ≤ 60 → f.address ≠ 63 →
        exec .assign s = s.ends (((s.left rest).withLi { s.li with address := a.toNat }).answer f .ok []))
      ∧ (s.li.address = 0 → a.toNat = 0 ∨ 60 < a.toNat →
          exec .assign s = s.ends ((s.left rest).answer f .invalid []))
      ∧ (s.li.address ≠ 0 → exec .assign s = s.ends ((s.left rest).answer f .alreadyAssigned []))
      ∧ (f.address = 63 → exec .assign s = s.ends (s.left rest))

/-- The counters of a lane as READ_LINK_COUNTERS reports them (R173). -/
def Sys2Proof.Machine.laneReport (l : LaneState) : List Byte :=
  [l.counters.framing, l.counters.crc, l.counters.length, l.counters.timeout, l.counters.truncated, l.counters.noise,
    l.counters.forwardDrop].flatMap fun c => put2 c

/-- A lane with its seven counters at 0. -/
def Sys2Proof.Machine.laneCleared (l : LaneState) : LaneState :=
  { l with counters := {
      framing := 0, crc := 0, length := 0, timeout := 0, truncated := 0, noise := 0, forwardDrop := 0 } }

/-- R178, R185: PING reports the address, the power state, the reset cause, the pass counter, the two states, the
ACTIVE count, the busy flags and the number of pending reasons; READ_IDENTITY reports the identity record. Neither
changes anything. R173: READ_LINK_COUNTERS reports the thirty-one counters as they stand, and with *clear* sets them
all to 0 after that; an option bit without a meaning is refused INVALID (R183). -/
def Obligations.NodeAndLinkReport : Prop :=
  (∀ (s : State) (f : Frame) (rest : List Frame), s.Takes f rest → f.payload.length = 1 →
    (f.kind = 0x02 → exec .ping s = s.ends ((s.left rest).answer f .ok
        (put1 s.li.address ++ put1 1 ++ put1 s.pc.cause.code ++ put2 s.seq.passCounter ++ put1 s.seq.st.code
          ++ put1 s.eq.st.code ++ put1 s.ft.activeCount
          ++ [(if s.mu.st ≠ .idle then 1 else 0) ||| (if s.ss.saving.isSome = true then 2 else 0)]
          ++ put1 (s.ch.reasons.faultNew.toNat + s.ch.reasons.eqFinished.toNat + s.ch.reasons.watchWake.toNat))))
      ∧ (f.kind = 0x03 → exec .readIdentity s = s.ends ((s.left rest).answer f .ok
          (put1 0x2A ++ put2 0x1412 ++ [s.identity.revision] ++ put4 s.identity.serial.toNat ++ put1 14
            ++ put1 s.identity.factoryTrim.cell.toInt ++ put1 s.identity.factoryTrim.aux.toInt
            ++ put1 s.identity.factoryTrim.stack.toInt))))
    ∧ (∀ (s : State) (f : Frame) (rest : List Frame) (tag o : Byte), s.Takes f rest → f.kind = 0x04 → f.payload = [tag, o] →
    let report := laneReport s.li.laneRxS ++ laneReport s.li.laneRxN ++ laneReport s.li.laneTxS
      ++ laneReport s.li.laneTxN ++ put2 s.li.commandDrop ++ put2 s.li.replyDrop ++ put2 s.li.misaddressed
    (o = 0 → exec .readLinkCounters s = s.ends ((s.left rest).answer f .ok report))
      ∧ (o = 1 → exec .readLinkCounters s = s.ends (((s.left rest).answer f .ok report).withLi { s.li with
          laneRxS := laneCleared s.li.laneRxS, laneRxN := laneCleared s.li.laneRxN
          laneTxS := laneCleared s.li.laneTxS, laneTxN := laneCleared s.li.laneTxN
          commandDrop := 0, replyDrop := 0, misaddressed := 0 }))
      ∧ (2 ≤ o.toNat → exec .readLinkCounters s = s.ends ((s.left rest).answer f .invalid [])))

/-- The frames of the reply queue that a soft reset keeps: the one TX_S is sending, if any (R179). -/
def Sys2Proof.Machine.Node.inTransmission (n : Node) : List Frame :=
  match n.li.txS with
  | some { sender := .reply, .. } => n.ch.replyQueue.take 1
  | _ => []

/-- R179 and the reset tables: RESET_NODE. The state it leaves, block by block: what every block's soft-reset values
(R17, R42, R57, R76, R95, R125, R157, R174, R180, R182) are, what is emptied and what is kept. The transmissions in
progress on TX_N and TX_S go on to their end and the last sender is kept; at the end of the event a free transmitter
may start. The OK reply is the last of the reply queue when the command was addressed. (That the pass start time
becomes absent is the model's own choice, log entry 17; it rests on log entry 9 too.) -/
def Obligations.ResetNodeLeavesTheSoftResetState : Prop :=
  ∀ (s : State) (f : Frame) (rest : List Frame), s.Takes f rest → f.kind = 0x05 → f.payload.length = 1 →
    ∃ t, exec .resetNode s = .next t ∧ t.pending = s.pending ∧ t.now = s.now
      ∧ t.identity = s.identity ∧ t.cfg = s.cfg ∧ t.ss = s.ss
      ∧ t.cu = {
          st := (match s.cu.st with
            | .converting _ => .recovering (s.now + 10)
            | x => x)
          holder := none, waiting := [], request := none, injection := .off, heldInjection := none, trim := s.cu.trim }
      ∧ t.seq = {
          active := none, staged := none, st := .stopped, epoch := 0, passCounter := 0, passDone := false, late := 0
          stepIndex := none, due := none, passStart := none, acc := none }
      ∧ t.rt = sourceCodes.map (fun c => { source := c, content := none })
      ∧ t.lm = {
          recs := s.lm.recs.map fun r => { r with st := .normal, overCount := 0, underCount := 0, releaseCount := 0 }
          passSources := [], popMark := false }
      ∧ t.ft = { entries := [], evictions := 0 }
      ∧ t.eq = {
          st := .idle, frameMs := s.cfg.eqFrame, slot := 0, slotEnd := some (s.now + s.cfg.eqFrame * 1000 / 64)
          channels := channelNumbers.map fun k => {
            num := k, duty := 0, budget := 0, staged := none, closed := false, openSince := s.now, lifetime := 0
            done := false, kept := false }
          quiet := { seq := none, mu := none, watch := none }
          preStandby := none }
      ∧ t.mu = { st := .idle, op := none }
      ∧ t.pc = { s.pc with cause := .soft, watchTimer := none, watchRaise := false, watchPass := none }
      ∧ t.li.address = s.li.address ∧ t.li.laneRxS = s.li.laneRxS ∧ t.li.laneRxN = s.li.laneRxN
      ∧ t.li.laneTxS = s.li.laneTxS ∧ t.li.laneTxN = s.li.laneTxN ∧ t.li.north = s.li.north ∧ t.li.south = s.li.south
      ∧ t.li.commandDrop = s.li.commandDrop ∧ t.li.misaddressed = s.li.misaddressed
      ∧ t.li.replyDrop = min (s.li.replyDrop + (s.ch.replyQueue.length - s.toNode.inTransmission.length)) 65535
      ∧ t.li.silence = (if s.cfg.silenceTimeout = 0 then none else some (s.now + s.cfg.silenceTimeout * 250000))
      ∧ t.ch.cmdQueue = [] ∧ t.ch.pendingReplies = [] ∧ t.ch.lastAlert = none
      ∧ t.ch.reasons = { faultNew := false, eqFinished := false, watchWake := false }
      ∧ (f.address ≠ 63 → t.ch.replyQueue = s.toNode.inTransmission
          ++ [{ address := BitVec.ofNat 8 s.li.address, kind := 0x85, payload := f.payload ++ [0] }])
      ∧ (f.address = 63 → t.ch.replyQueue = s.toNode.inTransmission)
      ∧ (∀ e ∈ s.li.txN, t.li.txN = some e)
      ∧ (∀ e ∈ s.li.txS, t.li.txS = some e ∧ t.li.lastSender = s.li.lastSender)
      ∧ exec .resetNode s = s.ends (t.withLi { s.li with replyDrop := t.li.replyDrop, silence := t.li.silence })

/-! ### The configuration set -/

/-- R2: the four conditions of a change of the population to `v`. -/
abbrev Sys2Proof.Machine.Node.PopulationMayBecome (n : Node) (v : Nat) : Prop :=
  n.seq.st = .stopped
    ∧ (∀ p ∈ n.seq.active, ∀ x ∈ p.steps, ¬(1 ≤ x.source ∧ x.source ≤ 14 ∧ v < x.source))
    ∧ (∀ p ∈ n.seq.staged, ∀ x ∈ p.steps, ¬(1 ≤ x.source ∧ x.source ≤ 14 ∧ v < x.source))
    ∧ (n.eq.st = .idle ∨ n.eq.st = .safeStop) ∧ (∀ c ∈ n.eq.channels, c.budget = 0 ∧ c.staged = none)
    ∧ n.mu.st = .idle

/-- R2, R3, R56, R75, R94, R124: CONFIG_WRITE of POPULATION. The value the item holds is answered OK and nothing
changes. Another value from 4 to 14 is taken when the four conditions hold: records of cells above it become EMPTY,
their limit states NORMAL with counts 0, their ACTIVE limit entries CLEARED, their channels lose budget and staged
values, and the change is marked for the plausibility check (R69). Otherwise it is refused NOT_ALLOWED, and a value
outside 4 to 14 INVALID. -/
def Obligations.PopulationWriteIsJudged : Prop :=
  ∀ (s : State) (f : Frame) (rest : List Frame) (tag b : Byte), s.Takes f rest → f.kind = 0x10 →
    f.payload = [tag, 1, b] →
    let v := b.toNat
    (v < 4 ∨ 14 < v → exec .configWritePopulation s = s.ends ((s.left rest).answer f .invalid []))
      ∧ (4 ≤ v → v ≤ 14 → v = s.cfg.population →
          exec .configWritePopulation s = s.ends ((s.left rest).answer f .ok []))
      ∧ (4 ≤ v → v ≤ 14 → v ≠ s.cfg.population → ¬s.toNode.PopulationMayBecome v →
          exec .configWritePopulation s = s.ends ((s.left rest).answer f .notAllowed []))
      ∧ (4 ≤ v → v ≤ 14 → v ≠ s.cfg.population → s.toNode.PopulationMayBecome v →
          exec .configWritePopulation s = s.ends
            ((((((s.left rest).withCfg { s.cfg with population := v }).withRt
                (s.rt.map fun r => if r.source ≤ 14 ∧ v < r.source then { r with content := none } else r)).withLm {
                recs := s.lm.recs.map fun r =>
                  if r.source ≤ 14 ∧ v < r.source
                  then { r with st := .normal, overCount := 0, underCount := 0, releaseCount := 0 } else r
                passSources := s.lm.passSources
                popMark := true }).withFt
                { s.ft with entries := s.ft.entries.map fun e =>
                    if (e.kind = .cellHigh ∨ e.kind = .cellLow) ∧ e.source ≤ 14 ∧ v < e.source
                    then { e with active := false } else e }).withEq
                { s.eq with channels := s.eq.channels.map fun c =>
                    if v < c.num then { c with budget := 0, staged := none } else c }
              |>.answer f .ok []))

/-- The unsigned value of two bytes, the first one the more significant (R183). -/
def Sys2Proof.Machine.two (b1 b0 : Byte) : Nat := b1.toNat * 256 + b0.toNat

/-- R187: CONFIG_WRITE of SUM_TOL, QUIET_SETTLE, EQ_FRAME, ALERT_HOLDOFF, WATCH_INTERVAL, LINE_THRESHOLD and
AUTOSTART. A value of the item is taken and answered OK, and nothing but the item changes at the event; any other
value is refused INVALID and changes nothing. -/
def Obligations.PlainItemsTakeTheirValues : Prop :=
  ∀ (s : State) (f : Frame) (rest : List Frame) (tag b1 b0 : Byte), s.Takes f rest → f.kind = 0x10 →
    let set (c : Settings) := s.ends (((s.left rest).withCfg c).answer f .ok [])
    let refuse := s.ends ((s.left rest).answer f .invalid [])
    (f.payload = [tag, 6, b1, b0] → exec .configWriteSumTol s = set { s.cfg with sumTol := two b1 b0 })
      ∧ (f.payload = [tag, 7, b0] → exec .configWriteQuietSettle s
          = if b0.toNat ≤ 15 then set { s.cfg with quietSettle := b0.toNat } else refuse)
      ∧ (f.payload = [tag, 8, b1, b0] → exec .configWriteEqFrame s
          = if two b1 b0 ∈ [256, 512, 1024, 2048] then set { s.cfg with eqFrame := two b1 b0 } else refuse)
      ∧ (f.payload = [tag, 11, b0] → exec .configWriteAlertHoldoff s = set { s.cfg with alertHoldoff := b0.toNat })
      ∧ (f.payload = [tag, 12, b1, b0] → exec .configWriteWatchInterval s
          = if two b1 b0 ≤ 3600 then set { s.cfg with watchInterval := two b1 b0 } else refuse)
      ∧ (f.payload = [tag, 13, b1, b0] → exec .configWriteLineThreshold s
          = if 1 ≤ two b1 b0 then set { s.cfg with lineThreshold := two b1 b0 } else refuse)
      ∧ (f.payload = [tag, 14, b0] → exec .configWriteAutostart s
          = if b0.toNat ≤ 1 then set { s.cfg with autostart := decide (b0 = 1) } else refuse)

/-- The silence timer restarted at the moment, with LINK_SILENT cleared first (R171, R92). -/
def Sys2Proof.Machine.Node.silenceStarted (n : Node) (timeout : Nat) : Node :=
  (n.withFt { n.ft with entries := n.ft.entries.map fun e =>
      if e.kind = .linkSilent ∧ e.source = 0 then { e with active := false } else e }).withLi
    { n.li with silence := if timeout = 0 then none else some (n.now + timeout * 250000) }

/-- R72, R171, R172, R182, R51: the CONFIG_WRITEs whose owners act at once, or whose value has a form of its own.
AUX_ROLE takes one of three roles; SILENCE_TIMEOUT restarts the silence timer; ALERT_ENABLE written off empties the
pending set; REPORT_LIST takes a list number 0 to 3 and up to 21 distinct sources. Other values are refused INVALID,
and more than 21 codes BAD_LENGTH. -/
def Obligations.OwnedItemsActAtOnce : Prop :=
  ∀ (s : State) (f : Frame) (rest : List Frame) (tag b j : Byte) (codes : List Byte), s.Takes f rest → f.kind = 0x10 →
    (∀ i ∈ [1, 2, 3, 4], f.payload = [tag, BitVec.ofNat 8 (i + 1), b] →
        (∀ p ∈ [((0 : Byte), AuxRole.general), (1, AuxRole.heatIfLow), (2, AuxRole.heatIfHigh)], b = p.1 →
          exec .configWriteAuxRole s = s.ends (((s.left rest).withCfg (s.cfg.setRole i p.2)).answer f .ok []))
        ∧ (2 < b.toNat → exec .configWriteAuxRole s = s.ends ((s.left rest).answer f .invalid [])))
      ∧ (f.payload = [tag, 9, b] → exec .configWriteSilenceTimeout s
          = s.ends ((((s.left rest).withCfg { s.cfg with silenceTimeout := b.toNat }).silenceStarted b.toNat).answer
              f .ok []))
      ∧ (f.payload = [tag, 10, 0] → exec .configWriteAlertEnable s
          = s.ends ((((s.left rest).withCfg { s.cfg with alertEnable := false }).withCh
              { s.ch with cmdQueue := rest, reasons := { faultNew := false, eqFinished := false, watchWake := false } }
            ).answer f .ok []))
      ∧ (f.payload = [tag, 10, 1] → exec .configWriteAlertEnable s
          = s.ends (((s.left rest).withCfg { s.cfg with alertEnable := true }).answer f .ok []))
      ∧ (f.payload = [tag, 10, b] → 1 < b.toNat →
          exec .configWriteAlertEnable s = s.ends ((s.left rest).answer f .invalid []))
      ∧ (f.payload = tag :: 15 :: j :: codes →
          (21 < codes.length → exec .configWriteReportList s = s.ends ((s.left rest).answer f .badLength []))
          ∧ (codes.length ≤ 21 → j.toNat ≤ 3 → (∀ c ∈ codes, 1 ≤ c.toNat ∧ c.toNat ≤ 21) → codes.Nodup →
              exec .configWriteReportList s = s.ends
                (((s.left rest).withCfg (s.cfg.setList j.toNat (codes.map fun c => c.toNat))).answer f .ok []))
          ∧ (codes.length ≤ 21 → ¬(j.toNat ≤ 3 ∧ (∀ c ∈ codes, 1 ≤ c.toNat ∧ c.toNat ≤ 21) ∧ codes.Nodup) →
              exec .configWriteReportList s = s.ends ((s.left rest).answer f .invalid [])))

/-- R187, parts 1 and 2: every CONFIG_WRITE row refuses an unknown item id INVALID whatever follows it, and its own
items with a value field of the wrong width (a REPORT_LIST: without a list number), or a frame with no item id,
BAD_LENGTH. (Which row takes a frame without a known id is the model's choice, log entry 12.) -/
def Obligations.ConfigWriteChecksIdAndWidth : Prop :=
  ∀ (s : State) (f : Frame) (rest : List Frame) (tag id : Byte) (value : List Byte), s.Takes f rest →
    f.kind = 0x10 → (∀ r ∈ writeRows,
    (f.payload.length ≤ 1 → exec r.1 s = s.ends ((s.left rest).answer f .badLength []))
      ∧ (f.payload = tag :: id :: value →
          (id.toNat = 0 ∨ 15 < id.toNat → exec r.1 s = s.ends ((s.left rest).answer f .invalid []))
          ∧ (r.2.1 ≤ id.toNat → id.toNat ≤ r.2.2.1 → value.length ≠ r.2.2.2 →
              exec r.1 s = s.ends ((s.left rest).answer f .badLength []))))
    ∧ (f.payload.length ≤ 1 → exec .configWriteReportList s = s.ends ((s.left rest).answer f .badLength []))
    ∧ (f.payload = tag :: id :: value →
        (id.toNat = 0 ∨ 15 < id.toNat → exec .configWriteReportList s = s.ends ((s.left rest).answer f .invalid []))
        ∧ (id = 15 → value = [] → exec .configWriteReportList s = s.ends ((s.left rest).answer f .badLength [])))

/-- The value field of an item, in the form of the write (R184). -/
def Sys2Proof.Machine.itemValue (c : Settings) (id : Nat) (j : Nat) : List Byte :=
  match id with
  | 1 => put1 c.population
  | 2 => put1 c.role1.code
  | 3 => put1 c.role2.code
  | 4 => put1 c.role3.code
  | 5 => put1 c.role4.code
  | 6 => put2 c.sumTol
  | 7 => put1 c.quietSettle
  | 8 => put2 c.eqFrame
  | 9 => put1 c.silenceTimeout
  | 10 => put1 (if c.alertEnable then 1 else 0)
  | 11 => put1 c.alertHoldoff
  | 12 => put2 c.watchInterval
  | 13 => put2 c.lineThreshold
  | 14 => put1 (if c.autostart then 1 else 0)
  | _ => put1 j ++ (c.list j).flatMap fun x => put1 x

/-- R187: CONFIG_READ answers the item id and the value as it stands in the form of the write, for a REPORT_LIST the
list number and its codes. An id outside 1 to 15 or a list number above 3 is refused INVALID. That a list number
missing or too many is BAD_LENGTH, and an unknown id INVALID at LENGTH 3 too, is the model's own choice (log entry
12). Nothing changes. -/
def Obligations.ConfigReadReportsTheItem : Prop :=
  ∀ (s : State) (f : Frame) (rest : List Frame) (tag id j : Byte), s.Takes f rest → f.kind = 0x11 →
    (f.payload = [tag, id] → 1 ≤ id.toNat → id.toNat ≤ 14 →
        exec .configRead s = s.ends ((s.left rest).answer f .ok (id :: itemValue s.cfg id.toNat 0)))
      ∧ (f.payload = [tag, 15, j] → j.toNat ≤ 3 →
          exec .configRead s = s.ends ((s.left rest).answer f .ok (15 :: itemValue s.cfg 15 j.toNat)))
      ∧ (f.payload = [tag, 15, j] → 3 < j.toNat → exec .configRead s = s.ends ((s.left rest).answer f .invalid []))
      ∧ (f.payload = [tag, id] ∨ f.payload = [tag, id, j] → id.toNat = 0 ∨ 15 < id.toNat →
          exec .configRead s = s.ends ((s.left rest).answer f .invalid []))
      ∧ (f.payload = [tag, 15] ∨ (f.payload = [tag, id, j] ∧ 1 ≤ id.toNat ∧ id.toNat ≤ 14) →
          exec .configRead s = s.ends ((s.left rest).answer f .badLength []))

/-! ### Limits and the Settings Store -/

/-- A limit field as a source reads it: signed for DIETEMP, unsigned for every other (R61). -/
def Sys2Proof.Machine.limitValue (src : Nat) (b1 b0 : Byte) : Int :=
  if src = 20 then (if two b1 b0 < 32768 then two b1 b0 else two b1 b0 - 65536) else two b1 b0

/-- A limit, present with the value of two bytes when `present`, else absent. -/
def Sys2Proof.Machine.limitField (present : Bool) (src : Nat) (b1 b0 : Byte) : Option Int :=
  if present then some (limitValue src b1 b0) else none

/-- R61, R62, R183: LIMIT_WRITE. A set of sources 1 to 20 that is not empty, a persistence from 1 to 15, and limits
that lie, as each source reads them, within its range and in order, are taken: the configuration of each named source
is replaced and its counts become 0; its state is kept and no result is judged again. Anything else is refused
INVALID. R63: LIMIT_READ of a source 1 to 21 reports its limits or their absence, its persistence, its state and its
three counts as they stand, and changes nothing; another code is refused INVALID. (The monitor holds one record for
each source: SettingsAndRecordsStayLegal.) -/
def Obligations.LimitsAreWrittenAndRead : Prop :=
  (∀ (s : State) (f : Frame) (rest : List Frame) (tag m2 m1 m0 fl u1 u0 l1 l0 p : Byte), s.Takes f rest →
    f.kind = 0x12 → f.payload = [tag, m2, m1, m0, fl, u1, u0, l1, l0, p] →
    let named (src : Nat) : Bool := (m2.toNat * 65536 + m1.toNat * 256 + m0.toNat).testBit src
    let upper (src : Nat) := limitField (fl.getLsbD 0) src u1 u0
    let lower (src : Nat) := limitField (fl.getLsbD 1) src l1 l0
    let good := fl.toNat < 4 ∧ 1 ≤ p.toNat ∧ p.toNat ≤ 15 ∧ (∃ src ∈ List.range 24, named src = true)
      ∧ ∀ src ∈ List.range 24, named src = true → 1 ≤ src ∧ src ≤ 20
        ∧ (∀ u ∈ upper src, sourceLow src ≤ u ∧ u ≤ sourceHigh src)
        ∧ (∀ l ∈ lower src, sourceLow src ≤ l ∧ l ≤ sourceHigh src)
        ∧ (∀ u ∈ upper src, ∀ l ∈ lower src, l ≤ u)
    (good → exec .limitWrite s = s.ends (((s.left rest).withLm { s.lm with
        recs := s.lm.recs.map fun r =>
          if r.source < 24 ∧ named r.source = true then
            { r with
              cfg := { upper := upper r.source, lower := lower r.source, p := p.toNat }
              overCount := 0, underCount := 0, releaseCount := 0 }
          else r }).answer f .ok []))
      ∧ (¬good → exec .limitWrite s = s.ends ((s.left rest).answer f .invalid [])))
    ∧ (∀ (s : State) (f : Frame) (rest : List Frame) (tag b : Byte), s.LimitTableLaw → s.Takes f rest → f.kind = 0x13 →
    f.payload = [tag, b] →
    (∀ r ∈ s.lm.recs, r.source = b.toNat → exec .limitRead s = s.ends ((s.left rest).answer f .ok
        ([BitVec.ofNat 8 (r.cfg.upper.isSome.toNat + 2 * r.cfg.lower.isSome.toNat)]
          ++ put2 (r.cfg.upper.getD 0) ++ put2 (r.cfg.lower.getD 0) ++ put1 r.cfg.p ++ put1 r.st.code
          ++ put1 r.overCount ++ put1 r.underCount ++ put1 r.releaseCount)))
      ∧ (b.toNat = 0 ∨ 21 < b.toNat → exec .limitRead s = s.ends ((s.left rest).answer f .invalid []))
      ∧ (1 ≤ b.toNat → b.toNat ≤ 21 → ∃ r ∈ s.lm.recs, r.source = b.toNat))

/-- R189: STORE_SAVE. In SAVING it is refused BUSY. Otherwise the store takes a snapshot of the configuration set, the
limits of sources 1 to 20, the trim table and the active plan, and its image fails its check until the save ends 40 ms
later; no reply is formed yet. At the end the image is the snapshot, STORE_INVALID is cleared, and the OK with the
kept tag is formed unless the command came by broadcast. R190: STORE_DEFAULTS is refused NOT_ALLOWED unless the
sequencer is STOPPED, the Equalizer IDLE with nothing staged and no operation in flight. Accepted, it gives every item
its factory default, sources 1 to 20 the factory limits with their counts at 0, the trim table the factory trim, and
restarts the silence timer with 2 s. (That a population set back to 14 counts as a change for R69 is the model's
choice, log entry 20.) (It rests on log entries 4, 14 and 20, the model's own choices.) -/
def Obligations.TheStoreSavesAndRestores : Prop :=
  (∀ (s : State) (f : Frame) (rest : List Frame) (tag : Byte), s.Takes f rest → f.kind = 0x14 → f.payload = [tag] →
      (s.ss.saving ≠ none → exec .storeSave s = s.ends ((s.left rest).answer f .busy []))
        ∧ (s.ss.saving = none → exec .storeSave s = s.ends ((s.left rest).withSs {
            image := none
            saving := some {
              snapshot := {
                settings := s.cfg
                limits := (s.lm.recs.filter fun r => decide (r.source ≤ 20)).map fun r => r.cfg
                trim := s.cu.trim
                plan := s.seq.active }
              tag := tag
              broadcast := decide (f.address = 63)
              endsAt := s.now + 40000 } })))
    ∧ (∀ (s : State) (v : Saving), s.ss.saving = some v → s.Due v.endsAt →
        let n := ((s.withNow v.endsAt).withSs { image := some v.snapshot, saving := none }).withFt
          { s.ft with entries := s.ft.entries.map fun e =>
              if e.kind = .storeInvalid ∧ e.source = 0 then { e with active := false } else e }
        exec .storeSaveComplete s = s.ends (if v.broadcast then n else n.completionReply .store
          { address := BitVec.ofNat 8 s.li.address, kind := 0x94, payload := [v.tag, 0] }))
    ∧ (∀ (s : State) (f : Frame) (rest : List Frame), s.Takes f rest → f.kind = 0x15 → f.payload.length = 1 →
    let allowed := s.seq.st = .stopped ∧ s.eq.st = .idle ∧ (∀ c ∈ s.eq.channels, c.staged = none) ∧ s.mu.st = .idle
    (¬allowed → exec .storeDefaults s = s.ends ((s.left rest).answer f .notAllowed []))
      ∧ (allowed → exec .storeDefaults s = s.ends ((((((s.left rest).withCfg {
            population := 14, role1 := .general, role2 := .general, role3 := .general, role4 := .general
            sumTol := 2000, quietSettle := 5, eqFrame := 1024, silenceTimeout := 8, alertEnable := true
            alertHoldoff := 10, watchInterval := 10, lineThreshold := 500, autostart := false
            list0 := [], list1 := [], list2 := [], list3 := [] }).withLm {
            recs := s.lm.recs.map fun r => if 1 ≤ r.source ∧ r.source ≤ 20
              then { r with cfg := LimitCfg.factory r.source, overCount := 0, underCount := 0, releaseCount := 0 }
              else r
            passSources := s.lm.passSources
            popMark := s.lm.popMark || decide (s.cfg.population ≠ 14) }).withCu
            { s.cu with trim := s.identity.factoryTrim }).silenceStarted 8).answer f .ok [])))

/-! ### Plans and the sequencer's commands -/

/-- The two bytes of a plan step (R184): a source 1 to 21; a samples code 0 to 4, a kind 0 to 2 and the quiet flag. -/
def Sys2Proof.Machine.stepOf (b0 b1 : Byte) : Option Step :=
  match [1, 2, 4, 8, 16][b1.toNat % 8]?, [ConvKind.fast, .normal, .fine][b1.toNat / 8 % 4]? with
  | some samples, some kind =>
    if 1 ≤ b0.toNat ∧ b0.toNat ≤ 21 ∧ b1.toNat < 64
    then some { source := b0.toNat, samples := samples, kind := kind, quiet := decide (32 ≤ b1.toNat) } else none
  | _, _ => none

/-- The steps of a PLAN_WRITE; none when one of them holds a code of no meaning. -/
def Sys2Proof.Machine.stepsOf : List Byte → Option (List Step)
  | b0 :: b1 :: l => (stepOf b0 b1).bind fun x => (stepsOf l).map fun r => x :: r
  | [] => some []
  | [_] => none

/-- R19: a step may stand in a plan at population `n`: its quiet flag is set on cells and STACK only, and it names no
cell above the population. -/
abbrev Sys2Proof.Machine.Step.MayStand (x : Step) (n : Nat) : Prop :=
  (x.quiet = true → x.source ≤ 14 ∨ x.source = 19) ∧ (x.source ≤ 14 → x.source ≤ n)

/-- The plan as PLAN_READ gives it (R185). -/
def Sys2Proof.Machine.planReport (p : Plan) : List Byte :=
  put1 p.mode.code ++ put2 p.interval ++ put1 p.steps.length ++ p.steps.flatMap fun x =>
    [BitVec.ofNat 8 x.source, BitVec.ofNat 8 (samplesCode x.samples + 8 * x.kind.code + 32 * x.quiet.toNat)]

/-- R19, R20, R184: PLAN_WRITE. LENGTH is 5 + 2 × the step count, else BAD_LENGTH. No steps makes the staged plan
absent. 1 to 24 steps that all read and may stand at the population in force, with a mode of the list, become the
staged plan; anything else is refused INVALID. Nothing but the staged plan changes. -/
def Obligations.PlanWriteStagesAPlan : Prop :=
  ∀ (s : State) (f : Frame) (rest : List Frame) (tag mode i1 i0 count : Byte) (body : List Byte), s.Takes f rest →
    f.kind = 0x20 →
    (f.payload.length < 5 → exec .planWrite s = s.ends ((s.left rest).answer f .badLength []))
      ∧ (f.payload = tag :: mode :: i1 :: i0 :: count :: body →
          (body.length ≠ 2 * count.toNat → exec .planWrite s = s.ends ((s.left rest).answer f .badLength []))
          ∧ (body.length = 2 * count.toNat →
              (count = 0 → exec .planWrite s
                = s.ends (((s.left rest).withSeq { s.seq with staged := none }).answer f .ok []))
              ∧ (1 ≤ count.toNat → count.toNat ≤ 24 → mode.toNat ≤ 1 → ∀ l ∈ stepsOf body,
                  (∀ x ∈ l, x.MayStand s.cfg.population) → exec .planWrite s = s.ends (((s.left rest).withSeq
                    { s.seq with staged := some {
                        mode := if mode = 0 then .single else .continuous
                        interval := two i1 i0
                        steps := l } }).answer f .ok []))
              ∧ (24 < count.toNat ∨ (count ≠ 0 ∧ 1 < mode.toNat) ∨ stepsOf body = none
                  ∨ (∃ l ∈ stepsOf body, ∃ x ∈ l, ¬x.MayStand s.cfg.population) →
                  exec .planWrite s = s.ends ((s.left rest).answer f .invalid []))))

/-- R21: PLAN_READ names the ACTIVE or the STAGED place. A plan there is reported with mode, interval, step count and
steps in order; an absent one is answered NOT_FOUND; another selector is refused INVALID. It changes nothing. After an
activation the staged plan is the active one, and the staged place is empty. -/
def Obligations.PlanReadReportsAPlace : Prop :=
  (∀ (s : State) (f : Frame) (rest : List Frame) (tag place : Byte), s.Takes f rest → f.kind = 0x21 →
      f.payload = [tag, place] →
      (place = 0 → ∀ p ∈ s.seq.active, exec .planRead s = s.ends ((s.left rest).answer f .ok (planReport p)))
        ∧ (place = 1 → ∀ p ∈ s.seq.staged, exec .planRead s = s.ends ((s.left rest).answer f .ok (planReport p)))
        ∧ ((place = 0 ∧ s.seq.active = none) ∨ (place = 1 ∧ s.seq.staged = none) →
          exec .planRead s = s.ends ((s.left rest).answer f .notFound []))
        ∧ (1 < place.toNat → exec .planRead s = s.ends ((s.left rest).answer f .invalid [])))
    ∧ ∀ (n : Node) (p : Plan), n.seq.staged = some p → n.activate.seq.active = some p ∧ n.activate.seq.staged = none

/-- R36, R22, R24: SCAN_START. It is refused BUSY outside STOPPED or while an operation is in flight, and NO_PLAN when
neither plan is present. Accepted, it activates the staged plan, or the active one again: the epoch advances, every
fresh flag and PASS_DONE are cleared; and a pass starts: the pass counter advances, from 65,535 to 1, its time is
recorded, the due time is set from the plan, the set of sources written and the population mark are emptied (R69), and
the lease is asked for (LeaseRequestsFollowTheTable). Then it is answered OK. -/
def Obligations.ScanStartActivatesAndStartsAPass : Prop :=
  ∀ (s : State) (f : Frame) (rest : List Frame), s.Takes f rest → f.kind = 0x22 → f.payload.length = 1 →
    (s.seq.st ≠ .stopped ∨ s.mu.st ≠ .idle → exec .scanStart s = s.ends ((s.left rest).answer f .busy []))
      ∧ (s.seq.st = .stopped → s.mu.st = .idle → s.seq.staged = none → s.seq.active = none →
          exec .scanStart s = s.ends ((s.left rest).answer f .noPlan []))
      ∧ (s.seq.st = .stopped → s.mu.st = .idle → ∀ p ∈ (s.seq.staged.or s.seq.active),
          exec .scanStart s = s.ends (((((s.left rest).withSeq {
              active := some p
              staged := none
              st := .waitingCu
              epoch := s.seq.epoch + 1
              passCounter := if s.seq.passCounter < 65535 then s.seq.passCounter + 1 else 1
              passDone := false
              late := s.seq.late
              stepIndex := none
              due := (match p.mode with
                | .single => none
                | .continuous => some (s.now + p.interval * 1000))
              passStart := some s.now
              acc := none }).withRt
              (s.rt.map fun r => { r with content := r.content.map fun w => { w with fresh := false } })).withLm
              { s.lm with passSources := [], popMark := false }).leaseRequest .seq |>.answer f .ok []))

/-- R37: SCAN_STOP is answered OK in every state. It clears the step index, the accumulation and the due time and enters
STOPPED; it keeps both plans, PASS_DONE, the epoch, the pass counter and the late count, and writes no result. In
WAITING_CU the waiting request is withdrawn; in QUIET_WAIT and CONVERTING the quiet request is released and then the
lease: a conversion in progress is aborted into a recovery of 10 µs, and a waiting client is granted (R15). -/
def Obligations.ScanStopStopsTheSequencer : Prop :=
  ∀ (s : State) (f : Frame) (rest : List Frame), s.Takes f rest → f.kind = 0x23 → f.payload.length = 1 →
    let m := (s.left rest).withSeq { s.seq with st := .stopped, stepIndex := none, acc := none, due := none }
    let quiet := m.withEq { s.eq with quiet := { s.eq.quiet with seq := none } }
    (s.seq.st = .stopped → exec .scanStop s = s.ends ((s.left rest).answer f .ok []))
      ∧ (s.seq.st = .passGap ∨ s.seq.st = .deferred → exec .scanStop s = s.ends (m.answer f .ok []))
      ∧ (s.seq.st = .waitingCu → exec .scanStop s
          = s.ends ((m.withCu { s.cu with waiting := s.cu.waiting.filter fun c => decide (c ≠ .seq) }).answer f .ok []))
      ∧ (s.seq.st = .quietWait ∨ s.seq.st = .converting →
          (s.cu.holder ≠ some .seq → exec .scanStop s = s.ends (quiet.answer f .ok []))
          ∧ (s.cu.holder = some .seq → exec .scanStop s = s.ends ((quiet.withCu {
              st := (match s.cu.st with
                | .converting _ => .recovering (s.now + 10)
                | x => x)
              holder := none
              waiting := s.cu.waiting
              request := none
              injection := .off
              heldInjection := none
              trim := s.cu.trim }).grantWaiting.answer f .ok [])))

/-- R38, R39: SCAN_STATUS reports the state, the mode or its absence, the epoch, the pass counter, PASS_DONE, the late
count, whether a plan is staged, and the step index or its absence. With *take* it then clears PASS_DONE; without, it
changes nothing. An option bit without a meaning is refused INVALID. -/
def Obligations.ScanStatusReportsAndTakes : Prop :=
  ∀ (s : State) (f : Frame) (rest : List Frame) (tag o : Byte), s.Takes f rest → f.kind = 0x24 → f.payload = [tag, o] →
    let report := put1 s.seq.st.code
      ++ [match s.seq.active with
          | none => (0xFF : Byte)
          | some p => BitVec.ofNat 8 p.mode.code]
      ++ [s.seq.epoch] ++ put2 s.seq.passCounter
      ++ [BitVec.ofNat 8 (s.seq.passDone.toNat + 2 * s.seq.staged.isSome.toNat)] ++ put2 s.seq.late
      ++ put1 (s.seq.stepIndex.getD 0)
    (o = 0 → exec .scanStatus s = s.ends ((s.left rest).answer f .ok report))
      ∧ (o = 1 → exec .scanStatus s
          = s.ends (((s.left rest).answer f .ok report).withSeq { s.seq with passDone := false }))
      ∧ (2 ≤ o.toNat → exec .scanStatus s = s.ends ((s.left rest).answer f .invalid []))

/-! ### Results -/

/-- A reply record (R49, R185): 8 bytes, 14 with detail; every field that is absent is sent as 0. -/
def Sys2Proof.Machine.recordReport (detail : Bool) (src : Nat) (w : Option Written) : List Byte :=
  put1 src ++ (match w with
    | none => List.replicate 7 0 ++ (if detail then List.replicate 6 0 else [])
    | some w =>
      [BitVec.ofNat 8 (1 + 2 * w.fresh.toNat + 4 * (decide (w.origin = .watch)).toNat + 8 * w.spread.isSome.toNat
          + 16 * w.extrema.isSome.toNat)]
        ++ put2 w.value ++ put2 w.pass ++ put2 (w.spread.getD 0)
        ++ (if detail then [w.epoch] ++ put1 (samplesCode w.samples)
              ++ put2 (w.extrema.elim 0 fun x => x.least) ++ put2 (w.extrema.elim 0 fun x => x.greatest)
            else []))

/-- R48, R49, R52, R184: READ_RESULTS and READ_REPORT give the reply records of the first codes asked, at most 11, or 6
with detail, each as the table stands; READ_REPORT begins at its start position, 0 when it is omitted. A code outside 1
to 21, a list above 3, a start above 20 or an option bit without a meaning is refused INVALID. Nothing changes. -/
def Obligations.ReadsReportTheRecords : Prop :=
  ∀ (s : State) (f : Frame) (rest : List Frame) (tag o j start : Byte) (codes : List Byte), s.Takes f rest →
    let most := if o = 1 then 6 else 11
    let records (l : List Nat) :=
      (l.take most).flatMap fun c => recordReport (decide (o = 1)) c (findRecord s.rt c)
    let report (l : List Nat) (start : Nat) := put1 j.toNat ++ put1 l.length ++ put1 start
      ++ put1 (min most (l.length - start) : Nat) ++ records (l.drop start)
    (f.kind = 0x30 → f.payload = tag :: o :: codes → 1 ≤ codes.length → codes.length ≤ 21 →
        (o.toNat ≤ 1 → (∀ c ∈ codes, 1 ≤ c.toNat ∧ c.toNat ≤ 21) →
            exec .readResults s = s.ends ((s.left rest).answer f .ok
              (put1 codes.length ++ put1 (min most codes.length) ++ records (codes.map fun c => c.toNat))))
        ∧ (2 ≤ o.toNat ∨ (∃ c ∈ codes, c.toNat = 0 ∨ 21 < c.toNat) →
            exec .readResults s = s.ends ((s.left rest).answer f .invalid [])))
      ∧ (f.kind = 0x31 → (f.payload = [tag, j, o] ∧ start = 0) ∨ f.payload = [tag, j, o, start] →
        (o.toNat ≤ 1 → j.toNat ≤ 3 → start.toNat ≤ 20 →
            exec .readReport s = s.ends ((s.left rest).answer f .ok (report (s.cfg.list j.toNat) start.toNat)))
        ∧ (2 ≤ o.toNat ∨ 3 < j.toNat ∨ 20 < start.toNat →
            exec .readReport s = s.ends ((s.left rest).answer f .invalid [])))

/-- R54: CLEAR_EXTREMA makes the extrema of every named source absent and keeps every other field; an EMPTY record
stays EMPTY, and an empty mask changes nothing. A mask that names code 0 or a code above 21 is refused INVALID and
clears nothing. The next write of a cleared source gives it both extrema equal to the value. The Limit Monitor is not
reached. -/
def Obligations.ClearExtremaForgetsTheExtrema : Prop :=
  (∀ (s : State) (f : Frame) (rest : List Frame) (tag m2 m1 m0 : Byte), s.Takes f rest → f.kind = 0x32 →
      f.payload = [tag, m2, m1, m0] →
      let named (c : Nat) : Bool := (m2.toNat * 65536 + m1.toNat * 256 + m0.toNat).testBit c
      ((∀ c ∈ List.range 24, named c = true → 1 ≤ c ∧ c ≤ 21) → exec .clearExtrema s = s.ends (((s.left rest).withRt
            (s.rt.map fun r => if r.source < 24 ∧ named r.source = true then
              { r with content := r.content.map fun w => { w with extrema := none } } else r)).answer f .ok []))
        ∧ ((∃ c ∈ List.range 24, named c = true ∧ (c = 0 ∨ 21 < c)) →
            exec .clearExtrema s = s.ends ((s.left rest).answer f .invalid [])))
    ∧ ∀ (r : Record) (w : ResultWrite) (epoch : BitVec 8), r.content.bind Written.extrema = none →
        ((r.write w epoch).content.bind Written.extrema) = some { least := w.value, greatest := w.value }

/-! ### The Fault Table's commands -/

/-- A fault entry as FAULT_READ gives it (R185). -/
def Sys2Proof.Machine.entryReport (e : FaultEntry) : List Byte :=
  [BitVec.ofNat 8 e.kind.code, BitVec.ofNat 8 e.source,
      BitVec.ofNat 8 ((if e.active = true then 0 else 1) + 2 * e.value.isSome.toNat), BitVec.ofNat 8 e.count]
    ++ put2 e.first ++ put2 e.last ++ put4 (e.value.getD 0)

/-- R85: FAULT_READ reports the start position, the total, the number of ACTIVE entries, the eviction counter, the
number of entries returned (the smallest of the maximum count, 7 and those from the start position on) and the entries
in order. A start above 31, or a maximum count of 0 or above 32, is refused INVALID. Nothing changes. -/
def Obligations.FaultReadReportsEntriesInOrder : Prop :=
  ∀ (s : State) (f : Frame) (rest : List Frame) (tag start most : Byte), s.Takes f rest → f.kind = 0x40 →
    f.payload = [tag, start, most] →
    let number := min (min most.toNat 7) (s.ft.entries.length - start.toNat)
    (start.toNat ≤ 31 → 1 ≤ most.toNat → most.toNat ≤ 32 → exec .faultRead s = s.ends ((s.left rest).answer f .ok
        ([start] ++ put1 s.ft.entries.length ++ put1 (s.ft.entries.countP fun e => e.active) ++ put1 s.ft.evictions
          ++ put1 number ++ ((s.ft.entries.drop start.toNat).take number).flatMap entryReport)))
      ∧ (31 < start.toNat ∨ most.toNat = 0 ∨ 32 < most.toNat →
          exec .faultRead s = s.ends ((s.left rest).answer f .invalid []))

/-- R87, R89: FAULT_ACK acts on the entry of its pair: none, NOT_FOUND; ACTIVE, STILL_ACTIVE with the count; CLEARED
with another count, STALE with the count; CLEARED with the count seen, the entry is removed and every later one moves
forward. A kind outside 1 to 14 or a count seen of 0 is refused INVALID. FAULT_ACK_CLEARED removes every CLEARED
entry, sets the eviction counter to 0 and answers how many went. No alert reason is queued. -/
def Obligations.AcknowledgementsRemoveClearedEntries : Prop :=
  ∀ (s : State) (f : Frame) (rest : List Frame) (tag k src seen : Byte), s.FaultTableLaw → s.Takes f rest →
    (f.kind = 0x41 → f.payload = [tag, k, src, seen] →
        (k.toNat = 0 ∨ 14 < k.toNat ∨ seen = 0 → exec .faultAck s = s.ends ((s.left rest).answer f .invalid []))
        ∧ (1 ≤ k.toNat → k.toNat ≤ 14 → seen ≠ 0 →
            ((∀ e ∈ s.ft.entries, ¬(e.kind.code = k.toNat ∧ e.source = src.toNat)) →
                exec .faultAck s = s.ends ((s.left rest).answer f .notFound []))
            ∧ (∀ e ∈ s.ft.entries, e.kind.code = k.toNat ∧ e.source = src.toNat →
                (e.active = true → exec .faultAck s = s.ends ((s.left rest).answer f .stillActive (put1 e.count)))
                ∧ (e.active = false → e.count ≠ seen.toNat →
                    exec .faultAck s = s.ends ((s.left rest).answer f .stale (put1 e.count)))
                ∧ (e.active = false → e.count = seen.toNat → exec .faultAck s = s.ends
                    (((s.left rest).withFt { s.ft with entries := s.ft.entries.erase e }).answer f .ok [])))))
      ∧ (f.kind = 0x42 → f.payload = [tag] → exec .faultAckCleared s = s.ends (((s.left rest).withFt
          { entries := s.ft.entries.filter fun e => e.active, evictions := 0 }).answer f .ok
            (put1 (s.ft.entries.countP fun e => !e.active))))

/-! ### The Equalizer's commands -/

/-- The entries of an EQ_SET: channel, duty, budget (R184). -/
def Sys2Proof.Machine.setEntries : List Byte → List (Nat × Nat × Nat)
  | c :: d :: b2 :: b1 :: b0 :: l =>
    (c.toNat, d.toNat, b2.toNat * 65536 + b1.toNat * 256 + b0.toNat) :: setEntries l
  | _ => []

/-- R108, R109: EQ_SET. When every entry names a channel 1 to 14 within the population with a duty of at most 32 and a
budget of at most 16,777,215, and no channel twice, the staged values of each named channel are replaced; nothing else
changes. Otherwise it is refused INVALID and stages nothing. -/
def Obligations.EqSetStagesValues : Prop :=
  ∀ (s : State) (f : Frame) (rest : List Frame) (tag : Byte) (body : List Byte), s.Takes f rest → f.kind = 0x50 →
    f.payload = tag :: body → body.length ∈ (List.range' 1 14).map (fun k => 5 * k) →
    let l := setEntries body
    let good := (∀ e ∈ l, 1 ≤ e.1 ∧ e.1 ≤ 14 ∧ e.1 ≤ s.cfg.population ∧ e.2.1 ≤ 32 ∧ e.2.2 ≤ 16777215)
      ∧ (l.map fun e => e.1).Nodup
    (good → exec .eqSet s = s.ends (((s.left rest).withEq { s.eq with channels := s.eq.channels.map fun c =>
          match (l.find? fun e => e.1 == c.num) with
          | none => c
          | some e => { c with staged := some { duty := e.2.1, budget := e.2.2 } } }).answer f .ok []))
      ∧ (¬good → exec .eqSet s = s.ends ((s.left rest).answer f .invalid []))

/-- R112: EQ_STOP opens every closed switch at the moment, takes every budget to 0 and every staged value away, and
takes RUNNING to IDLE; duties, lifetime counts and the done mask are kept and no reason is handed on. R114: EQ_RESUME
takes SAFE_STOP to RUNNING when some budget is above 0, else to IDLE; in every other state it changes nothing. -/
def Obligations.EqStopAndEqResume : Prop :=
  ∀ (s : State) (f : Frame) (rest : List Frame), s.Takes f rest → f.payload.length = 1 →
    (f.kind = 0x51 → exec .eqStop s = s.ends (((s.left rest).withEq { s.eq with
        st := if s.eq.st = .running then .idle else s.eq.st
        channels := s.eq.channels.map fun c => { c with
          budget := 0
          staged := none
          closed := false
          openSince := if c.closed = true then s.now else c.openSince
          kept := false } }).answer f .ok []))
      ∧ (f.kind = 0x52 → s.eq.st = .safeStop → (∃ c ∈ s.eq.channels, 0 < c.budget) →
          exec .eqResume s = s.ends (((s.left rest).withEq { s.eq with st := .running }).answer f .ok []))
      ∧ (f.kind = 0x52 → s.eq.st = .safeStop → (∀ c ∈ s.eq.channels, c.budget = 0) →
          exec .eqResume s = s.ends (((s.left rest).withEq { s.eq with st := .idle }).answer f .ok []))
      ∧ (f.kind = 0x52 → s.eq.st ≠ .safeStop → exec .eqResume s = s.ends ((s.left rest).answer f .ok []))

/-- A channel record as EQ_READ gives it (R119, R185). -/
def Sys2Proof.Machine.channelReport (n : Node) (c : Channel) : List Byte :=
  let status := if n.inhibited c.num = true then 3 else if n.eq.quiet.holds c.num = true then 2
    else if c.closed = true then 1 else if 0 < c.budget then 4 else 0
  put1 c.num ++ put1 c.duty ++ put3 c.budget
    ++ (match c.staged with
      | none => put1 status ++ put1 0 ++ put3 0
      | some v => put1 (status + 8) ++ put1 v.duty ++ put3 v.budget)
    ++ put4 c.lifetime.toNat

/-- R119, R120, R121: EQ_READ reports the state, the frame length in force, the slot, the done mask and at most six
channel records from its first channel on, each with its status, and then empties the done mask. A first channel outside
1 to 14 is refused INVALID and empties nothing. (That a channel above the population under a WATCH request is QUIET is
the model's own choice, log entry 35.) -/
def Obligations.EqReadReportsAndEmptiesTheMask : Prop :=
  ∀ (s : State) (f : Frame) (rest : List Frame) (tag b : Byte), s.ChannelLaw → s.Takes f rest → f.kind = 0x53 →
    f.payload = [tag, b] →
    let page := (s.eq.channels.drop (b.toNat - 1)).take 6
    (1 ≤ b.toNat → b.toNat ≤ 14 → exec .eqRead s = s.ends (((s.left rest).answer f .ok
        (put1 s.eq.st.code ++ put2 s.eq.frameMs ++ put1 s.eq.slot
          ++ put2 ((s.eq.channels.map fun c => if c.done = true then 2 ^ (c.num - 1) else 0).sum : Nat)
          ++ [b] ++ put1 (min 6 (15 - b.toNat)) ++ page.flatMap (channelReport s.toNode))).withEq
          { s.eq with channels := s.eq.channels.map fun c => { c with done := false } }))
      ∧ (b.toNat = 0 ∨ 14 < b.toNat → exec .eqRead s = s.ends ((s.left rest).answer f .invalid []))

/-! ### Maintenance and standby -/

/-- R140 to R142: TRIM and LINE_CHECK. TRIM with an empty range mask, or one with a bit of no meaning, is refused
INVALID; either is refused BUSY while an operation is in flight or the sequencer is in a pass or DEFERRED. Accepted,
the operation takes its record (the tag, how it came, and for LINE_CHECK the population and the threshold in force),
waits for the lease and asks for it; no reply is formed. (What the record holds as current range, working value, bit,
round and span before the first trial or round is the model's own choice, log entry 36.) -/
def Obligations.MaintenanceIsAcceptedOrRefused : Prop :=
  ∀ (s : State) (f : Frame) (rest : List Frame) (tag mask : Byte), s.Takes f rest →
    let free := s.mu.st = .idle ∧ (s.seq.st = .stopped ∨ s.seq.st = .passGap)
    let started (body : OpBody) := ((s.left rest).withMu {
      st := .leaseWait
      op := some { tag := tag, broadcast := decide (f.address = 63), body := body } }).leaseRequest .mu
    (f.kind = 0x60 → f.payload = [tag, mask] →
        (mask = 0 ∨ 8 ≤ mask.toNat → exec .trim s = s.ends ((s.left rest).answer f .invalid []))
        ∧ (mask ≠ 0 → mask.toNat < 8 → ¬free → exec .trim s = s.ends ((s.left rest).answer f .busy []))
        ∧ (mask ≠ 0 → mask.toNat < 8 → free → exec .trim s = s.ends (started (.trim {
            selected := {
              cell := decide (mask.toNat % 2 = 1)
              aux := decide (mask.toNat / 2 % 2 = 1)
              stack := decide (mask.toNat / 4 = 1) }
            committed := { cell := none, aux := none, stack := none }
            range := .cell, u := 0, bit := 5 }))))
      ∧ (f.kind = 0x61 → f.payload = [tag] →
        (¬free → exec .lineCheck s = s.ends ((s.left rest).answer f .busy []))
        ∧ (free → exec .lineCheck s = s.ends (started (.line {
            n := s.cfg.population, threshold := s.cfg.lineThreshold, lo := 0, hi := s.cfg.population
            round := .first, a := 0, b := s.cfg.population, rounds := 0, offReading := none }))))

/-- R154, R153, R169: MAINT_ABORT. Without an operation it is answered NOT_FOUND. With one it is answered OK, and then
the waiting request is withdrawn, the quiet request and the lease are released (R15 aborts a conversion and turns
injection off), the ABORTED reply with the operation's tag and its data (codes committed, or rounds) is formed unless
the operation came by broadcast, the record is discarded, and a deferred pass starts. Trim table and Fault Table are
not touched by it. -/
def Obligations.MaintAbortEndsTheOperation : Prop :=
  ∀ (s : State) (f : Frame) (rest : List Frame), s.Takes f rest → f.kind = 0x62 → f.payload.length = 1 →
    (s.mu.op = none → exec .maintAbort s = s.ends ((s.left rest).answer f .notFound []))
      ∧ (∀ o ∈ s.mu.op,
          let code (c : Option TrimCode) : Byte := c.elim 0 fun c => c.signExtend 8
          let reply : Frame := {
            address := BitVec.ofNat 8 s.li.address
            kind := (match o.body with
              | .trim _ => 0xE0
              | .line _ => 0xE1)
            payload := o.tag :: 9 :: (match o.body with
              | .trim t => [BitVec.ofNat 8 (t.committed.cell.isSome.toNat + 2 * t.committed.aux.isSome.toNat
                    + 4 * t.committed.stack.isSome.toNat),
                  code t.committed.cell, code t.committed.aux, code t.committed.stack]
              | .line l => put1 l.rounds) }
          let m := ((((s.left rest).answer f .ok []).withCu
              { s.cu with waiting := s.cu.waiting.filter fun c => decide (c ≠ .mu) }).withEq
              { s.eq with quiet := { s.eq.quiet with mu := none } }).leaseRelease .mu
          exec .maintAbort s = s.ends
            (((if o.broadcast then m else m.completionReply .maintenance reply).withMu { st := .idle, op := none }
              ).startDeferred))

/-- A channel with its staged values applied at a wake (R123, R110); no slot counts for it. -/
def Sys2Proof.Machine.Channel.woken (c : Channel) : Channel := { c with
  duty := c.staged.elim c.duty fun v => v.duty
  budget := c.staged.elim c.budget fun v => v.budget
  staged := none
  kept := false }

/-- R192, R193, R122, R123: STANDBY is refused BUSY while an operation is in flight or a watch pass runs. Otherwise,
after its OK, the sequencer stops, every switch opens and the Equalizer is DISABLED with its state recorded and the
frame timer stopped, the converter is powered down, the silence timer stops, and the watch timer starts unless
WATCH_INTERVAL is 0. With frames behind it in the queue the node wakes at the same event. A frame wake makes the node
ACTIVE, stops the watch timer, powers the converter up if it is OFF, restarts the silence timer with LINK_SILENT
cleared, and brings the Equalizer out of DISABLED at slot 0 with staged values applied; in RUNNING the switches of
slot 0 that may close then close. (That the abandoned slot keeps its number while the Equalizer is DISABLED is the
model's own choice, log entry 30.) -/
def Obligations.StandbyPutsTheNodeToSleep : Prop :=
  (∀ (s : State) (f : Frame) (rest : List Frame), s.Takes f rest → f.kind = 0x70 → f.payload.length = 1 →
      (s.mu.st ≠ .idle ∨ s.pc.watchPass ≠ none → exec .standby s = s.ends ((s.left rest).answer f .busy []))
        ∧ (s.mu.st = .idle → s.pc.watchPass = none →
            let m := ((s.left rest).answer f .ok []).seqStop
            let asleep := (((m.withEq { m.eq with
                st := .disabled
                slotEnd := none
                preStandby := some m.eq.st
                channels := m.eq.channels.map fun c => { c with
                  closed := false
                  openSince := if c.closed = true then s.now else c.openSince
                  kept := false } }).withCu {
                st := .off, holder := none, waiting := [], request := none, injection := .off, heldInjection := none
                trim := m.cu.trim }).withLi { m.li with silence := none }).withPc { m.pc with
                power := .standby
                watchTimer := if s.cfg.watchInterval = 0 then none
                  else some (s.now + s.cfg.watchInterval * 1000000) }
            exec .standby s = s.ends (if rest = [] then asleep else asleep.frameWake)))
    ∧ ∀ n : Node, n.eq.st = .disabled →
        n.frameWake.pc = { n.pc with power := .active, watchTimer := none }
          ∧ n.frameWake.cu = { n.cu with st := if n.cu.st = .off then .powering (n.now + 200) else n.cu.st }
          ∧ n.frameWake.li = { n.li with
              silence := if n.cfg.silenceTimeout = 0 then none else some (n.now + n.cfg.silenceTimeout * 250000) }
          ∧ n.frameWake.eq.frameMs = n.cfg.eqFrame ∧ n.frameWake.eq.slot = 0
          ∧ n.frameWake.eq.slotEnd = some (n.now + n.cfg.eqFrame * 1000 / 64)
          ∧ n.frameWake.eq.preStandby = none ∧ n.frameWake.eq.quiet = n.eq.quiet
          ∧ n.frameWake.eq.channels = n.eq.channels.map (fun c =>
              if n.frameWake.eq.st = .running ∧ c.num % 2 = 1 ∧ 0 < c.staged.elim c.duty (fun v => v.duty)
                  ∧ 0 < c.staged.elim c.budget (fun v => v.budget) ∧ n.eq.quiet.holds c.num = false
                  ∧ n.inhibited c.num = false
              then { c.woken with closed := true } else c.woken)
          ∧ n.frameWake.ft = { n.ft with entries := n.ft.entries.map fun e =>
              if e.kind = .linkSilent ∧ e.source = 0 then { e with active := false } else e }
          ∧ n.frameWake.lm = n.lm ∧ n.frameWake.identity = n.identity
          ∧ n.frameWake.eq.st = (if n.eq.preStandby = some .safeStop then .safeStop
              else if ∃ c ∈ n.eq.channels, 0 < (c.staged.elim c.budget fun v => v.budget) then .running else .idle)
          ∧ n.frameWake.seq = n.seq ∧ n.frameWake.rt = n.rt ∧ n.frameWake.cfg = n.cfg ∧ n.frameWake.mu = n.mu
          ∧ n.frameWake.ss = n.ss ∧ n.frameWake.ch = n.ch ∧ n.frameWake.now = n.now

/-! ### The converter -/

/-- How long a conversion of a kind lasts (1.1). -/
def Sys2Proof.Machine.kindTime : ConvKind → Nat
  | .fast => 20
  | .normal => 80
  | .fine => 320

/-- The trim code a conversion reads at its start (R5, R9, R11, R12): the table's for the range of a source, the named
one for a zero input, CELL's for a line span. -/
def Sys2Proof.Machine.trimRead (t : TrimTable) : ConvRequest → TrimCode
  | .source src _ => if src ≤ 14 ∨ src = 21 then t.cell else if src = 19 ∨ src = 20 then t.stack else t.aux
  | .zeroInput _ code _ => code
  | .lineSpan _ _ _ => t.cell

/-- How long a requested conversion lasts (R5, R6). -/
def Sys2Proof.Machine.requestTime : ConvRequest → Nat
  | .source _ k => kindTime k
  | .zeroInput _ _ k => kindTime k
  | .lineSpan _ _ k => kindTime k

/-- The sources a request can name. -/
abbrev Sys2Proof.Machine.ConvRequest.Named (r : ConvRequest) : Prop :=
  match r with
  | .source src _ => 1 ≤ src ∧ src ≤ 21
  | _ => True

/-- R4, R5, R8, R9: the end of the power-up settle and the end of the recovery take the converter to IDLE, grant a free
lease to the waiting client (which then holds it) and start a pending conversion request, which reads its trim code,
the population and the injection setting then and ends after the duration of its kind. (It rests on log entries 4 and
8, the model's own choices.) -/
def Obligations.ConverterTimersEnterIdle : Prop :=
  ∀ (s : State) (t : Nat), s.Due t →
    let idle := (s.withNow t).withCu { s.cu with st := .idle }
    (s.cu.st = .powering t → exec .cuSettleExpiry s = s.ends idle.grantWaiting.startPending)
      ∧ (s.cu.st = .recovering t → exec .cuRecoveryExpiry s = s.ends idle.grantWaiting.startPending)
      ∧ (s.cu.holder ≠ none ∨ s.cu.waiting = [] → idle.grantWaiting = idle)
      ∧ (s.cu.holder = none → ∀ c ∈ s.cu.waiting.head?,
          idle.grantWaiting = idle.grantLease c ∧ idle.grantWaiting.cu.holder = some c)
      ∧ (s.cu.request = none → idle.startPending = idle)
      ∧ (∀ r ∈ s.cu.request, r.Named → idle.startPending = idle.withCu { s.cu with
          st := .converting { request := r, trim := trimRead s.cu.trim r, population := s.cfg.population
                              injection := s.cu.injection, endsAt := t + requestTime r }
          request := none })

/-- R5, R9, R11, R12: a conversion request. Only the lease holder's is taken, and a line span only with a ≤ b ≤ n. In
IDLE it starts at once, reading its trim code (the table's for a source's range, the named one for a zero input,
CELL's for a span), the population and the injection setting, and lasts as its kind says; in POWERING, RECOVERING and
CONVERTING it is held as the pending request, in place of an earlier one; in OFF nothing is taken. R13: an injection
order of the lease holder takes effect at once in IDLE, POWERING and RECOVERING, in CONVERTING it is held
(SamplesMakeAStepsResult has it take effect at the completion); an order of any other client, or in OFF, has none. -/
def Obligations.ConversionRequestsFollowTheTable : Prop :=
  (∀ (n : Node) (c : Client) (r : ConvRequest),
    let taken := n.cu.holder = some c ∧ (match r with
      | .lineSpan a b _ => a ≤ b ∧ b ≤ n.cfg.population
      | _ => True)
    r.Named →
    (¬taken → n.convRequest c r = n)
      ∧ (taken → n.cu.st = .off → n.convRequest c r = n)
      ∧ (taken → n.cu.st = .idle → n.convRequest c r = n.withCu { n.cu with
          st := .converting { request := r, trim := trimRead n.cu.trim r, population := n.cfg.population
                              injection := n.cu.injection, endsAt := n.now + requestTime r }
          request := none })
      ∧ (taken → n.cu.st ≠ .off → n.cu.st ≠ .idle → n.convRequest c r = n.withCu { n.cu with request := some r }))
    ∧ ∀ (n : Node) (c : Client) (i : Injection),
        (n.cu.holder ≠ some c ∨ n.cu.st = .off → n.orderInjection c i = n)
          ∧ (n.cu.holder = some c → n.cu.st = .idle ∨ (∃ t ∈ n.cu.st.expiry, n.cu.st = .powering t ∨ n.cu.st = .recovering t) →
              n.orderInjection c i = n.withCu { n.cu with injection := i })
          ∧ (n.cu.holder = some c → (match n.cu.st with
              | .converting _ => True
              | _ => False) → n.orderInjection c i = n.withCu { n.cu with heldInjection := some i })

/-- R14, R15: lease requests and releases. A free lease is granted at once in IDLE and RECOVERING; otherwise the
client waits; the holder's and a waiting client's request has no effect. A release by the holder frees the lease,
discards the pending request and a held injection order, turns injection off, aborts a conversion into a recovery of
10 µs, and then grants the first waiting client when the converter is IDLE or RECOVERING, and nobody in POWERING and
OFF; any other client's release has no effect. R26, R142, R194: a granted client holds the lease and waits no longer;
the sequencer begins its first step, the maintenance unit and the watch pass ask for quiet on every populated channel
and go on at once if it is granted at once. (It rests on log entries 8 and 22, the model's own choices.) -/
def Obligations.LeaseRequestsFollowTheTable : Prop :=
  (∀ (n : Node) (c : Client),
    (n.cu.holder = some c ∨ c ∈ n.cu.waiting → n.leaseRequest c = n)
      ∧ (n.cu.holder = none → c ∉ n.cu.waiting → (n.cu.st = .idle ∨ ∃ t ∈ n.cu.st.expiry, n.cu.st = .recovering t) →
          n.leaseRequest c = n.grantLease c ∧ (n.leaseRequest c).cu.holder = some c)
      ∧ (n.cu.holder ≠ some c → c ∉ n.cu.waiting →
          ¬(n.cu.holder = none ∧ (n.cu.st = .idle ∨ ∃ t ∈ n.cu.st.expiry, n.cu.st = .recovering t)) →
          n.leaseRequest c = n.withCu { n.cu with waiting := n.cu.waiting ++ [c] })
      ∧ (n.cu.holder ≠ some c → n.leaseRelease c = n)
      ∧ (n.cu.holder = some c → n.leaseRelease c = (n.withCu {
          st := (match n.cu.st with
            | .converting _ => .recovering (n.now + 10)
            | x => x)
          holder := none, waiting := n.cu.waiting, request := none, injection := .off, heldInjection := none
          trim := n.cu.trim }).grantWaiting))
    ∧ (∀ n : Node,
        let ready := n.cu.st = .idle ∨ ∃ t ∈ n.cu.st.expiry, n.cu.st = .recovering t
        (n.cu.holder ≠ none ∨ n.cu.waiting = [] ∨ ¬ready → n.grantWaiting = n)
          ∧ (n.cu.holder = none → ready → ∀ c ∈ n.cu.waiting.head?, n.grantWaiting = n.grantLease c))
    ∧ ∀ n : Node,
        let held (c : Client) := n.withCu { n.cu with
          holder := some c, waiting := n.cu.waiting.filter fun d => decide (d ≠ c) }
        let every := List.range' 1 n.cfg.population
        let mu := ((held .mu).withMu { n.mu with st := .quietWait }).quietRequest .mu every
        n.grantLease .seq = (held .seq).seqBeginStep 1
          ∧ n.grantLease .mu = (if mu.quietGranted .mu = true then mu.muStart else mu)
          ∧ (∀ w ∈ n.pc.watchPass,
              let watch := ((held .watch).withPc { n.pc with watchPass := some { w with stage := .quietWait } }
                ).quietRequest .watch every
              n.grantLease .watch = if watch.quietGranted .watch = true then watch.watchStart else watch)

/-! ### The sequencer -/

/-- The node when a conversion has completed, before its sample is delivered (R6, R13). -/
def Sys2Proof.Machine.Node.converted (n : Node) (t : Nat) : Node :=
  ((n.withNow t).withCu { n.cu with
    st := .idle, injection := n.cu.heldInjection.getD n.cu.injection, heldInjection := none }).startPending

/-- The converter's reading in thousandths of a unit with the trim code added, rounded half up to a unit (R1). -/
def Sys2Proof.Machine.trimmed (trim : TrimCode) (reading : Int) : Int := (reading + 1000 * trim.toInt + 500) / 1000

/-- R6, R28, R29, R30: a sample delivered to the sequencer in CONVERTING joins the accumulation (sum, least, greatest,
count). Below the step's sample count the next conversion is requested. At the count the step's result is written: the
sum divided by the count, rounded half up, and the spread when there is more than one sample, with origin PLAN and the
pass counter; then the quiet request of a quiet step is released, and the next step begins or the pass ends. Outside
CONVERTING the sample is discarded, and so is one that finds no holder. R1, R11, R12: a sample is the converter's
reading with the trim code added, rounded half up and clamped: to the source's range, a zero input to −2,048 to
+2,047, a line span to 0 to 1,000,000. (It rests on log entries 4, 6, 7 and 34, the model's own choices.) -/
def Obligations.SamplesMakeAStepsResult : Prop :=
  (∀ (s : State) (v : Conversion) (reading : Int), s.cu.st = .converting v → s.Due v.endsAt →
    let m := s.toNode.converted v.endsAt
    let x := v.sample reading
    (s.cu.holder = none → exec (.conversionComplete reading) s = s.ends m)
      ∧ (s.cu.holder = some .seq → s.seq.st ≠ .converting → exec (.conversionComplete reading) s = s.ends m)
      ∧ (s.cu.holder = some .seq → s.seq.st = .converting → ∀ i ∈ s.seq.stepIndex, ∀ p ∈ s.seq.active, 1 ≤ i →
          ∀ step ∈ p.steps[i - 1]?,
          let a : Accum := (match s.seq.acc with
            | none => { sum := x, least := x, greatest := x, count := 1 }
            | some a => { sum := a.sum + x, least := min a.least x, greatest := max a.greatest x, count := a.count + 1 })
          let written := (m.withSeq { s.seq with acc := none }).writeResult {
            source := step.source
            value := (2 * a.sum + a.count) / (2 * a.count)
            samples := step.samples
            spread := if 1 < a.count then some (a.greatest - a.least).toNat else none
            origin := .plan
            pass := s.seq.passCounter }
          let released := if step.quiet = true
            then written.withEq { written.eq with quiet := { written.eq.quiet with seq := none } } else written
          (a.count < step.samples → exec (.conversionComplete reading) s
              = s.ends ((m.withSeq { s.seq with acc := some a }).convRequest .seq (.source step.source step.kind)))
            ∧ (step.samples ≤ a.count → i < p.steps.length →
                exec (.conversionComplete reading) s = s.ends (released.seqBeginStep (i + 1)))
            ∧ (step.samples ≤ a.count → i = p.steps.length →
                exec (.conversionComplete reading) s = s.ends released.passEnd)))
    ∧ ∀ (v : Conversion) (reading : Int),
        let within (low high : Int) := max low (min high (trimmed v.trim reading))
        (∀ src kind, v.request = .source src kind →
            ((1 ≤ src ∧ src ≤ 14) ∨ src = 21 → v.sample reading = within 0 50000)
            ∧ (15 ≤ src ∧ src ≤ 18 → v.sample reading = within 0 65535)
            ∧ (src = 19 → v.sample reading = within 0 40000)
            ∧ (src = 20 → v.sample reading = within (-400) 1500))
          ∧ (∀ range code kind, v.request = .zeroInput range code kind → v.sample reading = within (-2048) 2047)
          ∧ (∀ a b kind, v.request = .lineSpan a b kind → v.sample reading = within 0 1000000)

/-- R26, R27, R128: to begin the step at a position the sequencer sets the step index. With the quiet flag clear it
enters CONVERTING and requests the step's conversion; with it set it enters QUIET_WAIT and makes its quiet request on
the channels next to the cell, or on every populated channel for STACK, and goes on to CONVERTING at once if the
request is granted at once. -/
def Obligations.StepsBeginWithTheirQuietRequest : Prop :=
  ∀ (n : Node) (i : Nat) (p : Plan) (x : Step), n.seq.active = some p → 1 ≤ i → p.steps[i - 1]? = some x →
    let set := if x.source ≤ 14
      then (List.range' 1 n.cfg.population).filter fun k => decide (k = x.source ∨ k + 1 = x.source ∨ k = x.source + 1)
      else List.range' 1 n.cfg.population
    let asked := (n.withSeq { n.seq with stepIndex := some i, st := .quietWait }).quietRequest .seq set
    (x.quiet = false → n.seqBeginStep i = (n.withSeq { n.seq with
        stepIndex := some i, st := .converting, acc := none }).convRequest .seq (.source x.source x.kind))
      ∧ (x.quiet = true → 1 ≤ x.source → asked.quietGranted .seq = false → n.seqBeginStep i = asked)
      ∧ (x.quiet = true → 1 ≤ x.source → asked.quietGranted .seq = true → n.seqBeginStep i
          = (asked.withSeq { asked.seq with st := .converting, acc := none }).convRequest .seq
              (.source x.source x.kind))

/-- R31 to R35, R22 to R24: pass ends, due times and deferral, and what a pass start of the active plan does: a staged
plan is activated when the active one is CONTINUOUS, the pass counter advances, the due time is set from the plan then
active, the set and the mark of R69 are emptied and the lease is asked for. At a pass end PASS_DONE is set, the
plausibility check runs, the lease is released and the step index cleared; a SINGLE plan then stops; a CONTINUOUS one
starts its next pass at once with interval 0, at its due time, and after it (counted late), and waits in PASS_GAP
before it. The due time's expiry in PASS_GAP starts a pass, or defers it while an operation is in flight; at that
operation's end the deferred pass starts, counted late when the plan then active is CONTINUOUS with an interval other
than 0 (DEDUCED, log entry 11). (It rests on log entries 4 and 11, the model's own choices.) -/
def Obligations.PassesFollowOneAnother : Prop :=
  (∀ (n : Node) (p : Plan), n.seq.active = some p →
      let ended := (((n.withSeq { n.seq with passDone := true }).plausibility n.seq.passCounter).leaseRelease .seq)
      let m := ended.withSeq { ended.seq with stepIndex := none, acc := none }
      n.passEnd = m.afterPass
        ∧ (p.mode = .single → n.afterPass = n.withSeq { n.seq with st := .stopped, due := none })
        ∧ (p.mode = .continuous → p.interval = 0 → n.afterPass = n.passStart false)
        ∧ (p.mode = .continuous → p.interval ≠ 0 → ∀ d ∈ n.seq.due,
            (n.now < d → n.afterPass = n.withSeq { n.seq with st := .passGap })
            ∧ (n.now = d → n.afterPass = n.passStart false)
            ∧ (d < n.now → n.afterPass
                = (n.withSeq { n.seq with late := min (n.seq.late + 1) 65535 }).passStart false)))
    ∧ (∀ (s : State) (t : Nat), s.seq.st = .passGap → s.seq.due = some t → s.Due t →
        (s.mu.st = .idle → exec .passDueExpiry s = s.ends ((s.withNow t).passStart false))
        ∧ (s.mu.st ≠ .idle → exec .passDueExpiry s
            = s.ends ((s.withNow t).withSeq { s.seq with st := .deferred })))
    ∧ (∀ n : Node, n.seq.st ≠ .deferred → n.startDeferred = n)
    ∧ (∀ n : Node, n.seq.st = .deferred → ∀ p ∈ (n.passStart false).seq.active,
        (p.mode = .continuous ∧ p.interval ≠ 0 → n.startDeferred = (n.passStart false).withSeq
            { (n.passStart false).seq with late := min ((n.passStart false).seq.late + 1) 65535 })
        ∧ (p.mode = .single ∨ p.interval = 0 → n.startDeferred = n.passStart false))
    ∧ ∀ (n : Node) (p : Plan), n.seq.active = some p →
        let activates := p.mode = .continuous ∧ n.seq.staged ≠ none
        let q := if p.mode = .continuous then n.seq.staged.getD p else p
        n.passStart false = (((n.withSeq {
            active := some q
            staged := if activates then none else n.seq.staged
            st := .waitingCu
            epoch := if activates then n.seq.epoch + 1 else n.seq.epoch
            passCounter := if n.seq.passCounter < 65535 then n.seq.passCounter + 1 else 1
            passDone := if activates then false else n.seq.passDone
            late := n.seq.late
            stepIndex := none
            due := (match q.mode with
              | .single => none
              | .continuous => some (n.now + q.interval * 1000))
            passStart := some n.now
            acc := none }).withRt (if activates
              then n.rt.map fun r => { r with content := r.content.map fun w => { w with fresh := false } }
              else n.rt)).withLm { n.lm with passSources := [], popMark := false }).leaseRequest .seq

/-! ### The maintenance unit's readings -/

/-- R145, R146: a trial's reading. A reading above 0 clears the current bit of the working value, any other keeps it.
Above bit 0 the next lower bit is tried by a FINE zero-input conversion with the code u − 32. At bit 0 the code u − 32
is committed to the trim table of the range and recorded, TRIM_RAIL is raised for u 0 and 63 and cleared for every
other value, and the next selected range begins or the operation ends OK with its codes. (It rests on log entries 4,
6, 7 and 34, the model's own choices.) -/
def Obligations.TrimReadingsSearchTheCode : Prop :=
  ∀ (s : State) (v : Conversion) (reading : Int) (o : Operation) (t : TrimOp), s.cu.st = .converting v →
    s.Due v.endsAt → s.cu.holder = some .mu → s.mu.st = .trimTrial → s.mu.op = some o → o.body = .trim t →
    let m := s.toNode.converted v.endsAt
    let u : BitVec 6 := if 0 < v.sample reading then t.u &&& ~~~((1 : BitVec 6) <<< t.bit) else t.u
    let next := u ||| ((1 : BitVec 6) <<< (t.bit - 1))
    let code : TrimCode := u - 32
    let committed : Committed := (match t.range with
      | .cell => { t.committed with cell := some code }
      | .aux => { t.committed with aux := some code }
      | .stack => { t.committed with stack := some code })
    let done : TrimOp := { t with u := u, committed := committed }
    let table : TrimTable := (match t.range with
      | .cell => { s.cu.trim with cell := code }
      | .aux => { s.cu.trim with aux := code }
      | .stack => { s.cu.trim with stack := code })
    let stored := (m.withCu { m.cu with trim := table }).withMu
      { st := .trimTrial, op := some { o with body := .trim done } }
    let rail := if u = 0 ∨ u = 63 then stored.raiseFault .trimRail t.range.number s.seq.passCounter none
      else stored.clearFault .trimRail t.range.number
    let following : Option Range := (match t.range with
      | .cell => if t.selected.aux then some .aux else if t.selected.stack then some .stack else none
      | .aux => if t.selected.stack then some .stack else none
      | .stack => none)
    (0 < t.bit → exec (.conversionComplete reading) s = s.ends ((m.withMu {
        st := .trimTrial
        op := some { o with body := .trim { t with u := next, bit := t.bit - 1 } } }).convRequest .mu
          (.zeroInput t.range (next - 32) .fine)))
      ∧ (t.bit = 0 → ∀ r ∈ following, exec (.conversionComplete reading) s = s.ends ((rail.withMu {
          st := .trimTrial
          op := some { o with body := .trim { done with range := r, u := 32, bit := 5 } } }).convRequest .mu
            (.zeroInput r 0 .fine)))
      ∧ (t.bit = 0 → following = none →
          exec (.conversionComplete reading) s = s.ends (rail.endOperation 0x60 .ok committed.bytes))

/-- R148 to R152: the readings of a line check. The first reading of a span is kept, injection is ordered on over the
span and 2 ms of settle begin; at their end the span is converted again; at that reading injection is ordered off and
the span deviates when the two readings differ by more than the threshold. FIRST: no deviation ends the check NONE, a
deviation begins the search. SEARCH: the search goes on in the tested half if it deviates, else above it. CONFIRM:
OPEN(L) or INCONCLUSIVE. The search tests lo..⌊(lo+hi)/2⌋ while lo < hi, and then the line lo alone. (It rests on log
entries 4, 6, 7 and 34, the model's own choices.) -/
def Obligations.LineCheckReadingsSearchTheLine : Prop :=
  (∀ (s : State) (v : Conversion) (reading : Int) (o : Operation) (l : LineOp), s.cu.st = .converting v →
      s.Due v.endsAt → s.cu.holder = some .mu → s.mu.op = some o → o.body = .line l →
      let m := s.toNode.converted v.endsAt
      let x := v.sample reading
      let counted : LineOp := { l with rounds := l.rounds + 1, offReading := none }
      let judged := ((m.orderInjection .mu .off).withMu { st := .spanOn, op := some { o with body := .line counted } })
      let deviates := l.threshold < (x - l.offReading.getD 0).natAbs
      (s.mu.st = .spanOff → exec (.conversionComplete reading) s = s.ends
          (((m.withMu { st := .spanOff, op := some { o with body := .line { l with offReading := some x } } }
            ).orderInjection .mu (.on l.a l.b)).withMu {
              st := .injectSettle (v.endsAt + 2000)
              op := some { o with body := .line { l with offReading := some x } } }))
        ∧ (s.mu.st = .spanOn →
            (l.round = .first → ¬deviates → exec (.conversionComplete reading) s = s.ends (judged.lineEnd counted 0))
            ∧ (l.round = .first → deviates → exec (.conversionComplete reading) s = s.ends (judged.lineSearch counted))
            ∧ (l.round = .search → deviates → exec (.conversionComplete reading) s
                = s.ends (judged.lineSearch { counted with hi := l.b }))
            ∧ (l.round = .search → ¬deviates → exec (.conversionComplete reading) s
                = s.ends (judged.lineSearch { counted with lo := l.b + 1 }))
            ∧ (l.round = .confirm → deviates → exec (.conversionComplete reading) s
                = s.ends (judged.lineEnd counted 1))
            ∧ (l.round = .confirm → ¬deviates → exec (.conversionComplete reading) s
                = s.ends (judged.lineEnd counted 2))))
    ∧ (∀ (n : Node) (o : Operation) (l : LineOp), n.mu.op = some o →
        let b := if l.lo < l.hi then (l.lo + l.hi) / 2 else l.lo
        let round := if l.lo < l.hi then RoundKind.search else .confirm
        n.lineSearch l = (n.withMu {
          st := .spanOff
          op := some { o with body := .line { l with round := round, a := l.lo, b := b } } }).convRequest .mu
            (.lineSpan l.lo b .normal))
    ∧ (∀ (s : State) (t : Nat) (o : Operation) (l : LineOp), s.mu.st = .injectSettle t → s.Due t → s.mu.op = some o →
        o.body = .line l → exec .injectSettleExpiry s = s.ends (((s.withNow t).withMu { s.mu with st := .spanOn }
          ).convRequest .mu (.lineSpan l.a l.b .normal)))

/-- R152, R90, R153, R169: the end of an operation. NONE clears every ACTIVE LINE_OPEN entry, OPEN(L) every one for
another line and then raises the one for L, INCONCLUSIVE none. Then quiet and lease are released, the reply is formed
with the operation's tag unless the operation came by broadcast (it enters the reply queue, or waits when that is full
or an older reply waits), the record is discarded, and a deferred pass starts. -/
def Obligations.OperationsEndWithTheirReply : Prop :=
  (∀ (n : Node) (l : LineOp),
      let cleared (keep : Option Nat) := n.withFt { n.ft with
        entries := n.ft.entries.map fun e =>
          if e.kind = .lineOpen ∧ keep ≠ some e.source then { e with active := false } else e }
      n.lineEnd l 0 = (cleared none).endOperation 0x61 .ok (put1 0 ++ put1 0 ++ put1 l.rounds)
        ∧ n.lineEnd l 1 = ((cleared (some l.lo)).raiseFault .lineOpen l.lo n.seq.passCounter none).endOperation 0x61 .ok
            (put1 1 ++ put1 l.lo ++ put1 l.rounds)
        ∧ n.lineEnd l 2 = n.endOperation 0x61 .ok (put1 2 ++ put1 0 ++ put1 l.rounds))
    ∧ (∀ (n : Node) (o : Operation) (kind : Byte) (st : Status) (data : List Byte), n.mu.op = some o →
        kind = 0x60 ∨ kind = 0x61 →
        let m := (n.withEq { n.eq with quiet := { n.eq.quiet with mu := none } }).leaseRelease .mu
        let reply : Frame := {
          address := BitVec.ofNat 8 n.li.address, kind := kind + 0x80, payload := o.tag :: st.code :: data }
        n.endOperation kind st data = ((if o.broadcast then m else m.completionReply .maintenance reply).withMu
          { st := .idle, op := none }).startDeferred)
    ∧ ∀ (n : Node) (owner : ReplyOwner) (reply : Frame),
        (n.ch.replyQueue.length < 4 → n.ch.pendingReplies = [] → n.completionReply owner reply
            = n.withCh { n.ch with replyQueue := n.ch.replyQueue ++ [reply] })
          ∧ (4 ≤ n.ch.replyQueue.length ∨ n.ch.pendingReplies ≠ [] → n.completionReply owner reply
            = n.withCh { n.ch with
                pendingReplies := n.ch.pendingReplies ++ [{ owner := owner, frame := reply }] })

/-! ### Quiet, slots and silence -/

/-- R129, R130: quiet requests. A request opens every closed switch of its set at the moment, and its grant time is
the latest open-since of the set plus the settle time, or the moment itself if that is later; it is granted at once
when the grant time has come. A waiting request is granted at its grant time, and its requester acts: the sequencer
converts, the maintenance unit begins its first trial or its first span, the watch pass its first step. (It rests on
log entries 4 and 10, the model's own choices.) -/
def Obligations.QuietRequestsAreGrantedWhenSettled : Prop :=
  (∀ (n : Node) (who : Client) (set : List Nat),
      let channels := n.eq.channels.map fun c => if c.num ∈ set ∧ c.closed = true
        then { c with closed := false, openSince := n.now, kept := decide (n.eq.slotEnd = some n.now) } else c
      let latest := ((channels.filter fun c => decide (c.num ∈ set)).map fun c => c.openSince).foldr max 0
      let grantAt := max n.now (latest + n.cfg.quietSettle * 100)
      n.quietRequest who set = n.withEq { n.eq with
        channels := channels
        quiet := n.eq.quiet.set who (some {
          set := set
          settle := n.cfg.quietSettle * 100
          grantAt := grantAt
          granted := decide (grantAt ≤ n.now) }) })
    ∧ (∀ (s : State) (who : Client) (r : QuietReq), s.eq.quiet.get who = some r → r.granted = false →
        s.Due r.grantAt →
        let m := (s.withNow r.grantAt).withEq { s.eq with
          quiet := s.eq.quiet.set who (some { r with granted := true }) }
        (who = .seq → s.seq.st = .quietWait → ∀ i ∈ s.seq.stepIndex, ∀ p ∈ s.seq.active, 1 ≤ i →
            ∀ x ∈ p.steps[i - 1]?, exec (.quietGrant who) s = s.ends
              ((m.withSeq { s.seq with st := .converting, acc := none }).convRequest .seq (.source x.source x.kind)))
          ∧ (who = .mu → s.mu.st = .quietWait → exec (.quietGrant who) s = s.ends m.muStart)
          ∧ (who = .watch → ∀ w ∈ s.pc.watchPass, w.stage = .quietWait → exec (.quietGrant who) s = s.ends m.watchStart)
          ∧ (who = .seq → s.seq.st ≠ .quietWait → exec (.quietGrant who) s = s.ends m)
          ∧ (who = .mu → s.mu.st ≠ .quietWait → exec (.quietGrant who) s = s.ends m)
          ∧ (who = .watch → s.pc.watchPass = none → exec (.quietGrant who) s = s.ends m))
    ∧ (∀ (n : Node) (o : Operation) (x : TrimOp), n.mu.op = some o → o.body = .trim x →
        x.selected.cell = true ∨ x.selected.aux = true ∨ x.selected.stack = true →
        let r : Range := if x.selected.cell = true then .cell else if x.selected.aux = true then .aux else .stack
        n.muStart = (n.withMu {
          st := .trimTrial
          op := some { o with body := .trim { x with range := r, u := 32, bit := 5 } } }).convRequest .mu
            (.zeroInput r 0 .fine))
    ∧ (∀ (n : Node) (o : Operation) (l : LineOp), n.mu.op = some o → o.body = .line l → n.muStart = (n.withMu {
        st := .spanOff
        op := some { o with body := .line { l with
          lo := 0, hi := l.n, round := .first, a := 0, b := l.n } } }).convRequest .mu (.lineSpan 0 l.n .normal))
    ∧ ∀ (n : Node) (w : WatchPass), n.pc.watchPass = some w →
        n.watchStart = n.watchStep (List.range' 1 w.n ++ [19, 20, 15, 16, 17, 18, 21])

/-- R105, R106: a channel that was closed throughout the slot that ends, with what is left of its budget. -/
abbrev Sys2Proof.Machine.Channel.Served (c : Channel) : Prop := (c.closed = true ∨ c.kept = true) ∧ 0 < c.budget

/-- The budget after the slot that ends has been counted (R105). -/
def Sys2Proof.Machine.Channel.budgetAfter (c : Channel) : Nat := if c.Served then c.budget - 1 else c.budget

/-- A channel after part 1 of the slot boundary at the moment `t` into slot `next` (R101, R105, R106). -/
def Sys2Proof.Machine.Channel.afterPartOne (t next : Nat) (c : Channel) : Channel :=
  let stays := (if c.num % 2 = 1 then next < c.duty else 32 ≤ next ∧ next < 32 + c.duty) ∧ 0 < c.budgetAfter
  { c with
    budget := c.budgetAfter
    lifetime := if c.Served then c.lifetime + 1 else c.lifetime
    done := c.done || decide (c.Served ∧ c.budget = 1)
    closed := c.closed && decide stays
    openSince := if c.closed = true ∧ ¬stays then t else c.openSince
    kept := false }

/-- R101, R98, R102, R105 to R107, R110: a slot boundary. Part 1: each channel closed throughout the slot is counted;
one whose budget reaches 0 completes into the done mask; switches whose window or budget ends open; completions that
leave every budget 0 in RUNNING take the Equalizer to IDLE and hand on EQ_FINISHED. At a frame boundary the frame
length is taken from EQ_FRAME and staged values become active, and the state is adjusted. Part 4: the slot that begins
closes the switches that may close. (It rests on log entries 4 and 10, the model's own choices.) -/
def Obligations.SlotBoundariesCountAndClose : Prop :=
  ∀ (s : State) (t : Nat), s.eq.slotEnd = some t → s.Due t →
    let next := (s.eq.slot + 1) % 64
    let counted : List Channel := s.eq.channels.map fun c => c.afterPartOne t next
    let finished : Bool := decide (s.eq.st = .running ∧ (∃ c ∈ s.eq.channels, c.Served ∧ c.budget = 1)
      ∧ ∀ c ∈ counted, c.budget = 0)
    let active : List Channel := if next = 0 then counted.map fun c => { c with
        duty := c.staged.elim c.duty fun v => v.duty
        budget := c.staged.elim c.budget fun v => v.budget
        staged := none } else counted
    let owed : Bool := active.any fun c => decide (0 < c.budget)
    let st1 : EqState := if finished then .idle else s.eq.st
    let st2 : EqState := if next = 0 ∧ (st1 = .idle ∨ st1 = .running) then (if owed then .running else .idle) else st1
    let frameMs := if next = 0 then s.cfg.eqFrame else s.eq.frameMs
    let m := (s.withNow t).withEq { s.eq with
      st := st2, frameMs := frameMs, slot := next, slotEnd := some (t + frameMs * 1000 / 64), channels := active }
    let closing := m.withEq { m.eq with
      channels := active.map fun c =>
        if st2 = .running ∧ (if c.num % 2 = 1 then next < c.duty else 32 ≤ next ∧ next < 32 + c.duty) ∧ 0 < c.budget
            ∧ s.eq.quiet.holds c.num = false ∧ s.inhibited c.num = false
        then { c with closed := true } else c }
    exec .slotBoundary s = s.ends (if finished ∧ s.cfg.alertEnable = true
      then closing.withCh { s.ch with reasons := { s.ch.reasons with eqFinished := true } } else closing)

/-- R171, R117, R181, R165 to R167: the node's other timers. The silence timer's expiry raises LINK_SILENT with the
pass counter, stops the timer, and takes the Equalizer from IDLE or RUNNING to SAFE_STOP with every switch open. The
end of the alert holdoff does nothing of its own: the end of the event queues the ALERT
(ReplyPlacesAreClaimedInOrder). When the last symbol of a frame has been sent the frame leaves its queue or buffer.
(It rests on log entry 4, the model's own choices.) -/
def Obligations.TimersOfLinkAndAlertsExpire : Prop :=
  ∀ (s : State) (t : Nat), s.Due t →
    (s.li.silence = some t →
        let m := ((s.withNow t).withLi { s.li with silence := none }).raiseFault .linkSilent 0 s.seq.passCounter none
        exec .linkSilenceExpiry s = s.ends (if s.eq.st = .idle ∨ s.eq.st = .running
          then m.withEq { s.eq with
            st := .safeStop
            channels := s.eq.channels.map fun c => { c with
              closed := false
              openSince := if c.closed = true then t else c.openSince
              kept := false } }
          else m))
      ∧ ((s.ch.reasons.faultNew = true ∨ s.ch.reasons.eqFinished = true ∨ s.ch.reasons.watchWake = true) →
          s.cfg.alertEnable = true → s.li.address ≠ 0 → s.pc.power = .active → s.now < t →
          (∀ u ∈ s.ch.lastAlert, u + s.cfg.alertHoldoff * 10000 = t) → s.ch.lastAlert ≠ none →
          exec .alertHoldoffExpiry s = s.ends (s.withNow t))
      ∧ (s.li.txN = some t → exec .txNFrameSent s
          = s.ends ((s.withNow t).withLi { s.li with txN := none, north := s.li.north.tail }))
      ∧ (s.li.txS = some { sender := .reply, endsAt := t } → exec .txSFrameSent s
          = s.ends (((s.withNow t).withLi { s.li with txS := none }).withCh
              { s.ch with replyQueue := s.ch.replyQueue.tail }))
      ∧ (s.li.txS = some { sender := .forward, endsAt := t } → exec .txSFrameSent s
          = s.ends ((s.withNow t).withLi { s.li with txS := none, south := s.li.south.tail }))

/-! ### The watch pass -/

/-- R194, R195, R123: the watch pass. The watch timer's expiry starts it: the pass counter advances, the set of R69
and the population mark are emptied, the watch-raise mark is cleared, the population is recorded, the converter is
powered up and the lease asked for. Each sample is written with origin WATCH, one sample, no spread and the pass's
number; one of a cell above the population in force is discarded (R56). After REFCHK the plausibility check runs,
quiet and lease are released, and the node in standby wakes into SAFE_STOP with WATCH_WAKE when a fault became ACTIVE,
or powers the converter down and starts the watch timer again; an ACTIVE node does neither. (It rests on log entries
4, 6, 21, 22, 28 and 29, the model's own choices.) -/
def Obligations.WatchPassesMeasureAndDecide : Prop :=
  (∀ (s : State) (t : Nat), s.pc.watchTimer = some t → s.Due t →
      let pass := if s.seq.passCounter < 65535 then s.seq.passCounter + 1 else 1
      exec .watchTimerExpiry s = s.ends ((((((s.withNow t).withSeq { s.seq with passCounter := pass }).withLm
        { s.lm with passSources := [], popMark := false }).withPc { s.pc with
          watchTimer := none, watchRaise := false
          watchPass := some { n := s.cfg.population, pass := pass, stage := .leaseWait } }).withCu { s.cu with
            st := if s.cu.st = .off then .powering (t + 200) else s.cu.st }).leaseRequest .watch))
    ∧ (∀ (s : State) (v : Conversion) (reading : Int) (w : WatchPass) (src : Nat), s.cu.st = .converting v →
        s.Due v.endsAt → s.cu.holder = some .watch → s.pc.watchPass = some w → w.stage = .converting src →
        let m := s.toNode.converted v.endsAt
        let written := if 1 ≤ src ∧ src ≤ 14 ∧ s.cfg.population < src then m else m.writeResult {
          source := src, value := v.sample reading, samples := 1, spread := none, origin := .watch, pass := w.pass }
        let ended := (((written.plausibility w.pass).quietRelease .watch).leaseRelease .watch)
        let final := ended.withPc { ended.pc with watchPass := none }
        let woken := (final.withPc { final.pc with power := .active }).addReason fun r => { r with watchWake := true }
        (src ≠ 21 → exec (.conversionComplete reading) s
            = s.ends (written.watchStep (afterFirst src (List.range' 1 w.n ++ [19, 20, 15, 16, 17, 18, 21]))))
          ∧ (src = 21 → s.pc.power = .standby → final.pc.watchRaise = true → exec (.conversionComplete reading) s
              = s.ends ((woken.eqWake true).silenceStarted s.cfg.silenceTimeout))
          ∧ (src = 21 → s.pc.power = .standby → final.pc.watchRaise = false → exec (.conversionComplete reading) s
              = s.ends ((final.withCu {
                  st := .off, holder := none, waiting := [], request := none, injection := .off
                  heldInjection := none, trim := final.cu.trim }).withPc { final.pc with
                    watchTimer := if s.cfg.watchInterval = 0 then none
                      else some (v.endsAt + s.cfg.watchInterval * 1000000) }))
          ∧ (src = 21 → s.pc.power = .active → exec (.conversionComplete reading) s = s.ends final))
    ∧ (∀ (n : Node) (w : WatchPass) (steps : List Nat), n.pc.watchPass = some w →
        let runs (src : Nat) : Bool := decide ((src ≤ 14 → 1 ≤ src → src ≤ n.cfg.population)
          ∧ (15 ≤ src → src ≤ 18 → n.cfg.role (src - 14) ≠ .general))
        (∀ src ∈ steps.find? runs, n.watchStep steps
            = (n.withPc { n.pc with watchPass := some { w with stage := .converting src } }).convRequest .watch
                (.source src .fast))
          ∧ (steps.find? runs = none → n.watchStep steps = n))
    ∧ ∀ n : Node, n.eq.st = .disabled →
        (n.eqWake true).eq.st = .safeStop ∧ (n.eqWake true).eq.preStandby = none ∧ (n.eqWake true).eq.slot = 0
          ∧ (n.eqWake true).eq.slotEnd = some (n.now + n.cfg.eqFrame * 1000 / 64)
          ∧ (n.eqWake true).eq.frameMs = n.cfg.eqFrame ∧ (n.eqWake true).eq.quiet = n.eq.quiet
          ∧ (n.eqWake true).eq.channels = n.eq.channels.map (fun c => c.woken)

/-! ### Reset, break and start-up -/

/-- A lane whose receiver starts at the moment `t`: in HUNT, waiting for nothing, every counter at 0 (R174). -/
def Sys2Proof.Machine.laneStarted (t : Nat) : LaneState where
  rx := .hunt
  lastEnd := t
  waiting := false
  counters := {
    framing := 0, crc := 0, length := 0, timeout := 0, truncated := 0, noise := 0, forwardDrop := 0 }

/-- The Link Interface with its receivers started at the moment `t` (R161, R170). -/
def Sys2Proof.Machine.receiversStarted (l : LinkInterface) (t : Nat) : LinkInterface := { l with
  laneRxS := laneStarted t
  laneRxN := laneStarted t
  laneTxS := laneStarted t
  laneTxN := laneStarted t
  rxSHigh := t }

/-- R191, R170, R189 and the reset tables: power-on reset, break and loss of supply take every block to its reset
values and keep the identity record and the store image. After power-on the settings load of 5 ms and the 200 µs
power-up settle run; a break is detected when RX_S can have been low for 2 ms and not before, and is followed by the 3
ms drive on TX_N, and start-up begins at its end if RX_S is high, else when RX_S returns high. What the node is like
without supply is the model's choice (log entry 16). (It rests on log entries 4, 15, 16, 17, 24, 25 and 32, the
model's own choices.) -/
def Obligations.ResetsAndBreaksBeginStartUp : Prop :=
  (∀ (s : State) (dt : Nat), s.Calm dt →
      let t := s.now + dt
      let cold (cause : ResetCause) (phase : Phase) := Node.cold t s.identity s.ss.image cause phase
      let on := cold .powerOn (.loading (t + 5000))
      exec (.powerOnReset dt) s = s.ends (on.withCu { on.cu with st := .powering (t + 200) })
        ∧ (s.pc.receiving = true → s.li.rxSHigh + 2000 ≤ t →
            exec (.breakDetected dt) s = s.ends (cold .break_ (.breakDrive (t + 3000))))
        ∧ (t < s.li.rxSHigh + 2000 → exec (.breakDetected dt) s = .next s)
        ∧ (s.pc.phase ≠ .unpowered → exec (.powerLoss dt) s = s.ends (cold s.pc.cause .unpowered))
        ∧ (s.pc.phase = .breakWait → s.cu.st = .off → exec (.breakRelease dt) s
            = s.ends ((((s.withNow t).withPc { s.pc with phase := .loading (t + 5000) }).withLi
                (receiversStarted s.li t)).withCu { s.cu with st := .powering (t + 200) })))
    ∧ (∀ (s : State) (t : Nat), s.pc.phase = .breakDrive t → s.Due t →
        exec (.breakDriveEnd false) s = s.ends ((s.withNow t).withPc { s.pc with phase := .breakWait })
          ∧ (s.cu.st = .off → exec (.breakDriveEnd true) s
              = s.ends ((((s.withNow t).withPc { s.pc with phase := .loading (t + 5000) }).withLi
                  (receiversStarted s.li t)).withCu { s.cu with st := .powering (t + 200) })))
    ∧ ∀ (t : Nat) (id : Identity) (image : Option Image) (cause : ResetCause) (phase : Phase),
        let n := Node.cold t id image cause phase
        let lane := laneStarted t
        n.now = t ∧ n.identity = id ∧ n.ss = { image := image, saving := none }
          ∧ n.cu = { st := .off, holder := none, waiting := [], request := none, injection := .off
                     heldInjection := none, trim := id.factoryTrim }
          ∧ n.seq.active = none ∧ n.seq.staged = none ∧ n.seq.st = .stopped ∧ n.seq.epoch = 0 ∧ n.seq.passCounter = 0
          ∧ n.seq.passDone = false ∧ n.seq.late = 0 ∧ n.seq.stepIndex = none ∧ n.seq.due = none ∧ n.seq.acc = none
          ∧ n.rt = (List.range' 1 21).map (fun c => { source := c, content := none })
          ∧ (∀ r ∈ n.lm.recs, r.st = .normal ∧ r.overCount = 0 ∧ r.underCount = 0 ∧ r.releaseCount = 0)
          ∧ n.lm.recs.map (fun r => r.source) = List.range' 1 21 ∧ n.lm.passSources = [] ∧ n.lm.popMark = false
          ∧ n.ft = { entries := [], evictions := 0 } ∧ n.eq.st = .idle ∧ n.eq.slotEnd = none ∧ n.eq.preStandby = none
          ∧ n.eq.quiet = { seq := none, mu := none, watch := none }
          ∧ n.eq.channels = (List.range' 1 14).map (fun k => {
              num := k, duty := 0, budget := 0, staged := none, closed := false, openSince := t, lifetime := 0
              done := false, kept := false })
          ∧ n.mu = { st := .idle, op := none } ∧ n.li.address = 0 ∧ n.li.laneRxS = lane ∧ n.li.laneRxN = lane
          ∧ n.li.laneTxS = lane ∧ n.li.laneTxN = lane ∧ n.li.rxSHigh = t ∧ n.li.north = [] ∧ n.li.south = [] ∧ n.li.txN = none
          ∧ n.li.txS = none ∧ n.li.lastSender = .forward ∧ n.li.commandDrop = 0 ∧ n.li.replyDrop = 0
          ∧ n.li.misaddressed = 0 ∧ n.li.silence = none
          ∧ n.ch = { cmdQueue := [], replyQueue := [], pendingReplies := []
                     reasons := { faultNew := false, eqFinished := false, watchWake := false }, lastAlert := none }
          ∧ n.pc = { power := .starting, phase := phase, cause := cause, watchTimer := none, watchRaise := false
                     watchPass := none }

/-- The node at the moment `t` of the end of the settings load, with the settings `cfg` and the limits of sources 1 to
20 in force, before an autostart (R188, R191, R83, R97, R110, R171). -/
def Sys2Proof.Machine.Node.begun (n : Node) (t : Nat) (cfg : Settings) (limits : Nat → LimitCfg) : Node :=
  let news : Bool := decide (n.ss.image = none
    ∧ ¬∃ e ∈ n.ft.entries, e.kind = .storeInvalid ∧ e.source = 0 ∧ e.active = true)
  let owed : Bool := n.eq.channels.any fun c => decide (0 < c.woken.budget)
  let st : EqState := if n.eq.st = .idle ∨ n.eq.st = .running then (if owed then .running else .idle) else n.eq.st
  let loaded := ((n.withNow t).withCfg cfg).withLm { n.lm with
    recs := n.lm.recs.map fun r => if r.source ≤ 20 then { r with cfg := limits r.source } else r }
  ((((((loaded.withCu { n.cu with
      trim := (match n.ss.image with
        | some im => im.trim
        | none => n.identity.factoryTrim) }).withFt
      ((match n.ss.image with
        | some _ => n.ft
        | none => n.ft.raise .storeInvalid 0 n.seq.passCounter none).clear .linkSilent 0)).withCh { n.ch with
      reasons := { n.ch.reasons with faultNew := n.ch.reasons.faultNew || (news && cfg.alertEnable) } }).withPc
      { n.pc with
        power := .active, phase := .complete
        watchRaise := n.pc.watchRaise || (news && n.pc.watchPass.isSome) }).withEq { n.eq with
      st := st
      frameMs := cfg.eqFrame
      slot := 0
      slotEnd := some (t + cfg.eqFrame * 1000 / 64)
      channels := n.eq.channels.map fun c =>
        if st = .running ∧ c.num % 2 = 1 ∧ 0 < c.woken.duty ∧ 0 < c.woken.budget ∧ n.eq.quiet.holds c.num = false
            ∧ loaded.inhibited c.num = false
        then { c.woken with closed := true } else c.woken }).withLi { n.li with
      silence := if cfg.silenceTimeout = 0 then none else some (t + cfg.silenceTimeout * 250000) })

/-- R188, R191, R10, R40, R171: the end of the settings load. A valid image gives the configuration set, the limits of
sources 1 to 20 and the trim table; an image that fails its check gives the factory values, and STORE_INVALID is
raised. The node becomes ACTIVE, the frame timer starts at slot 0 with EQ_FRAME as loaded, the silence timer is
restarted, and with AUTOSTART on a stored plan is activated and its pass started (R22, R24, R69); otherwise the
sequencer is left as it is. STORE_INVALID that becomes ACTIVE hands FAULT_NEW to the alert generator (R83) while
ALERT_ENABLE is on. The Result Table keeps its records (an activation clears their fresh flags), and the lanes, the
queues and the buffers are left as they are, but for what the end of the event does. (It rests on log entries 4 and 9,
the model's own choices.) -/
def Obligations.StartUpLoadsAndBegins : Prop :=
  ∀ (s : State) (t : Nat), s.pc.phase = .loading t → s.Due t →
    let cfg : Settings := (match s.ss.image with
      | some im => im.settings
      | none => Settings.factory)
    let limits (src : Nat) : LimitCfg := (match s.ss.image with
      | some im => im.limits.getD (src - 1) (LimitCfg.factory src)
      | none => LimitCfg.factory src)
    ∃ u, exec .startUpComplete s = .next u ∧ u.pending = s.pending ∧ u.now = t ∧ u.identity = s.identity ∧ u.ss = s.ss
      ∧ u.mu = s.mu ∧ u.cfg = cfg ∧ u.pc.power = .active ∧ u.pc.phase = .complete ∧ u.pc.cause = s.pc.cause
      ∧ u.cu.trim = (match s.ss.image with
          | some im => im.trim
          | none => s.identity.factoryTrim)
      ∧ u.lm.recs = s.lm.recs.map (fun r => if r.source ≤ 20 then { r with cfg := limits r.source } else r)
      ∧ u.ft = (match s.ss.image with
          | some _ => s.ft
          | none => s.ft.raise .storeInvalid 0 s.seq.passCounter none).clear .linkSilent 0
      ∧ u.eq.slot = 0 ∧ u.eq.frameMs = cfg.eqFrame ∧ u.eq.slotEnd = some (t + cfg.eqFrame * 1000 / 64)
      ∧ u.li.silence = (if cfg.silenceTimeout = 0 then none else some (t + cfg.silenceTimeout * 250000))
      ∧ ((cfg.autostart = false ∨ ∀ im ∈ s.ss.image, im.plan = none) → u.seq = s.seq)
      ∧ (cfg.autostart = true → ∀ im ∈ s.ss.image, ∀ p ∈ im.plan, u.seq.active = some p ∧ u.seq.staged = none
          ∧ u.seq.epoch = s.seq.epoch + 1 ∧ u.seq.passDone = false ∧ u.seq.passStart = some t
          ∧ u.seq.passCounter = if s.seq.passCounter < 65535 then s.seq.passCounter + 1 else 1)
      ∧ u.ch.cmdQueue = s.ch.cmdQueue ∧ u.li.laneRxS = s.li.laneRxS ∧ u.li.laneRxN = s.li.laneRxN
      ∧ u.li.laneTxS = s.li.laneTxS ∧ u.li.laneTxN = s.li.laneTxN ∧ u.li.north = s.li.north ∧ u.li.south = s.li.south
      ∧ ((cfg.autostart = false ∨ ∀ im ∈ s.ss.image, im.plan = none) →
          u.rt = s.rt ∧ exec .startUpComplete s = s.ends (s.toNode.begun t cfg limits))
      ∧ (cfg.autostart = true → ∀ im ∈ s.ss.image, ∀ p ∈ im.plan,
          exec .startUpComplete s = s.ends ((((s.toNode.begun t cfg limits).withSeq {
            active := some p
            staged := none
            st := .waitingCu
            epoch := s.seq.epoch + 1
            passCounter := if s.seq.passCounter < 65535 then s.seq.passCounter + 1 else 1
            passDone := false
            late := s.seq.late
            stepIndex := none
            due := (match p.mode with
              | .single => none
              | .continuous => some (t + p.interval * 1000))
            passStart := some t
            acc := none }).withRt
            (s.rt.map fun r => { r with content := r.content.map fun w => { w with fresh := false } })).withLm
            { (s.toNode.begun t cfg limits).lm with passSources := [], popMark := false } |>.leaseRequest .seq))

/-! ### The lanes -/

/-- R161: the state a receiver enters on a well-formed symbol that neither ends nor breaks a frame. -/
def Sys2Proof.Machine.receiverAfter (rx : Receiver) (marked : Bool) (b : Byte) : Option Receiver :=
  match rx, marked with
  | .hunt, true => some (.header b none)
  | .hunt, false => some .hunt
  | .header a none, false => some (.header a (some b))
  | .header a (some k), false =>
    if b = 0 then some (.crc a k [] none) else if b.toNat ≤ 96 then some (.payload a k b.toNat []) else none
  | .payload a k len got, false =>
    some (if got.length + 1 < len then .payload a k len (got ++ [b]) else .crc a k (got ++ [b]) none)
  | .crc a k got none, false => some (.crc a k got (some b))
  | _, _ => none

/-- A lane after a symbol that ends at the moment `t` (R159, R162): the gap timer starts, after a low stop bit
the receiver waits, and disagreeing samples count as noise, once. -/
def Sys2Proof.Machine.laneAfter (l : LaneState) (t : Nat) (y : LineSymbol) (rx : Receiver) : LaneState where
  rx := rx
  lastEnd := t
  waiting := !y.stops
  counters := if y.first = y.second ∧ y.second = y.third then l.counters
    else { l.counters with noise := min (l.counters.noise + 1) 65535 }

/-- The Link Interface with a lane replaced after a symbol that ends at the moment `t`; on lane 0 the symbol shows until
when RX_S was high (R170). -/
def Sys2Proof.Machine.afterSymbol (l : LinkInterface) (k : Lane) (t : Nat) (y : LineSymbol) (x : LaneState) :
    LinkInterface :=
  { l.setLane k x with rxSHigh := if k = .rxS then t - y.lowTail else l.rxSHigh }

/-- R159, R161, R162, R173: the lane receivers. Each bit is what at least two of its samples say. After a framing
error a receiver takes no symbol before the line has been high for one bit time. A well-formed symbol moves the
receiver on; a low stop bit, a LENGTH above 96, a mark byte inside a frame, a check value that does not match and a
gap of more than 100 µs each abandon the frame (the mark byte begins a new one) and count once in the lane's counter
of their name, saturating at 65,535. Nothing else of the node changes. (It rests on log entries 4, 5, 31, 32 and 33,
the model's own choices.) -/
def Obligations.LaneReceiversFollowTheirTable : Prop :=
  (∀ (y : LineSymbol), ∀ i ∈ List.range 11, y.majority.getLsbD i
      = (y.first.getLsbD i && y.second.getLsbD i || y.first.getLsbD i && y.third.getLsbD i
        || y.second.getLsbD i && y.third.getLsbD i))
    ∧ (∀ (s : State) (dt : Nat) (k : Lane) (y : LineSymbol), s.Calm dt → s.pc.receiving = true →
        let lane := s.li.lane k
        let t := s.now + dt
        let becomes (rx : Receiver) (f : LaneCounters → LaneCounters) :=
          s.ends ((s.withNow t).withLi (afterSymbol s.li k t y
            { laneAfter lane t y rx with counters := f (laneAfter lane t y rx).counters }))
        (¬lane.Hears t y → ∀ row ∈ [Instr.symbolReceived dt k y, .framingError dt k y, .truncatedFrame dt k y,
            .lengthError dt k y, .crcMismatch dt k y, .frameReadBack dt k y], exec row s = .next s) ∧ (lane.Hears t y →
        (∀ rx ∈ receiverAfter lane.rx y.marked y.byte, y.stops = true →
            exec (.symbolReceived dt k y) s = becomes rx fun c => c)
          ∧ (y.stops = false → exec (.framingError dt k y) s
              = becomes .hunt fun c => { c with framing := min (c.framing + 1) 65535 })
          ∧ (y.stops = true → y.marked = true → lane.rx ≠ .hunt → exec (.truncatedFrame dt k y) s
              = becomes (.header y.byte none) fun c => { c with truncated := min (c.truncated + 1) 65535 })
          ∧ (y.stops = true → y.marked = false → 96 < y.byte.toNat →
              (match lane.rx with
                | .header _ (some _) => exec (.lengthError dt k y) s
                    = becomes .hunt fun c => { c with length := min (c.length + 1) 65535 }
                | _ => True))
          ∧ (y.stops = true → y.marked = false →
              (match lane.rx with
                | .crc a kind got (some high) =>
                  ({ address := a, kind := kind, payload := got : Frame }).crc ≠ high ++ y.byte →
                  exec (.crcMismatch dt k y) s
                    = becomes .hunt fun c => { c with crc := min (c.crc + 1) 65535 }
                | _ => True))))
    ∧ (∀ (y : LineSymbol), ∀ i ≤ 11, (∀ j < i, y.majority.getLsbD (10 - j) = false) →
        (i = 11 ∨ y.majority.getLsbD (10 - i) = true) → y.lowTail = i)
    ∧ ∀ (s : State) (k : Lane), (s.li.lane k).rx ≠ .hunt → s.Due ((s.li.lane k).lastEnd + 100) →
        exec (.gapTimeout k) s = s.ends ((s.withNow ((s.li.lane k).lastEnd + 100)).withLi (s.li.setLane k
          { s.li.lane k with
            rx := .hunt
            counters := { (s.li.lane k).counters with timeout := min ((s.li.lane k).counters.timeout + 1) 65535 } }))

/-- A good frame reaches the command queue (R163, R165, R171, R193). -/
def Sys2Proof.Machine.Node.commanded (n : Node) (f : Frame) : Node :=
  let m := if n.ch.cmdQueue.length < 4 then n.withCh { n.ch with cmdQueue := n.ch.cmdQueue ++ [f] }
    else n.withLi { n.li with commandDrop := min (n.li.commandDrop + 1) 65535 }
  match n.pc.power with
  | .starting => m
  | .active => m.silenceStarted m.cfg.silenceTimeout
  | .standby => if n.ch.cmdQueue.length < 4 then m.frameWake else m

/-- A good frame reaches the north forward buffer (R165). -/
def Sys2Proof.Machine.Node.passedNorth (n : Node) (f : Frame) : Node :=
  if n.li.north.length < 2 then n.withLi { n.li with north := n.li.north ++ [f] }
  else n.withLi { n.li with laneRxS := { n.li.laneRxS with counters := { n.li.laneRxS.counters with
    forwardDrop := min (n.li.laneRxS.counters.forwardDrop + 1) 65535 } } }

/-- A good frame reaches the south forward buffer (R165). -/
def Sys2Proof.Machine.Node.passedSouth (n : Node) (f : Frame) : Node :=
  if n.li.south.length < 2 then n.withLi { n.li with south := n.li.south ++ [f] }
  else n.withLi { n.li with laneRxN := { n.li.laneRxN with counters := { n.li.laneRxN.counters with
    forwardDrop := min (n.li.laneRxN.counters.forwardDrop + 1) 65535 } } }

/-- R160, R161, R163 to R165, R171, R193: good frames. The last symbol of a good frame takes the receiver to HUNT.
Lane 0 decides by address: the node's own to the command queue, 63 to the command queue and north, another node's
north, 0 to the command queue when the node is unassigned and the KIND is ASSIGN, and north when it is assigned; any
other frame is dropped and counted. Lane 1 passes 0 to 60 south and drops and counts the rest. A full queue or buffer
drops the frame and counts it. A frame for the command queue restarts the silence timer of an active node, and wakes
one in standby when it enters the queue. Lanes 2 and 3 discard the frame. (It rests on log entries 4, 5, 19, 31 and
32, the model's own choices.) -/
def Obligations.GoodFramesGoWhereTheirAddressSays : Prop :=
  ∀ (s : State) (dt : Nat) (k : Lane) (y : LineSymbol) (f : Frame) (high : Byte), s.Calm dt →
    s.pc.receiving = true → (s.li.lane k).Hears (s.now + dt) y → (s.li.lane k).rx = .crc f.address f.kind f.payload (some high) → f.crc = high ++ y.byte →
    y.stops = true → y.marked = false →
    let m := (s.withNow (s.now + dt)).withLi
      (afterSymbol s.li k (s.now + dt) y (laneAfter (s.li.lane k) (s.now + dt) y .hunt))
    let dropped := m.withLi { m.li with misaddressed := min (s.li.misaddressed + 1) 65535 }
    let a := f.address.toNat
    (k = .rxS →
        (a = 63 → exec (.frameReceivedSouth dt y) s = s.ends ((m.commanded f).passedNorth f))
        ∧ (1 ≤ a → a ≤ 60 → a = s.li.address → exec (.frameReceivedSouth dt y) s = s.ends (m.commanded f))
        ∧ (1 ≤ a → a ≤ 60 → a ≠ s.li.address → exec (.frameReceivedSouth dt y) s = s.ends (m.passedNorth f))
        ∧ (a = 0 → s.li.address = 0 → f.kind = 0x01 → exec (.frameReceivedSouth dt y) s = s.ends (m.commanded f))
        ∧ (a = 0 → s.li.address = 0 → f.kind ≠ 0x01 → exec (.frameReceivedSouth dt y) s = s.ends dropped)
        ∧ (a = 0 → s.li.address ≠ 0 → exec (.frameReceivedSouth dt y) s = s.ends (m.passedNorth f))
        ∧ (61 ≤ a → a ≠ 63 → exec (.frameReceivedSouth dt y) s = s.ends dropped))
      ∧ (k = .rxN →
        (a ≤ 60 → exec (.frameReceivedNorth dt y) s = s.ends (m.passedSouth f))
        ∧ (60 < a → exec (.frameReceivedNorth dt y) s = s.ends dropped))
      ∧ (k = .txS ∨ k = .txN → exec (.frameReadBack dt k y) s = s.ends m)

/-! ### Faults, judgements and results -/

/-- R82: a clear. An ACTIVE entry of the pair becomes CLEARED and keeps its count, passes, value and position; a
CLEARED one, or a pair without an entry, is left as it is; no entry is created or removed and no alert reason is
queued. R81 and R84: a raise. With no entry for the pair one joins at the end of the list, ACTIVE with count 1 and the
pass and value of the raise; a full table first loses its oldest CLEARED entry, which counts as an eviction. A CLEARED
entry becomes ACTIVE, its count rises to at most 255, its last pass and value are the raise's; an ACTIVE one takes the
pass and value only. A creation and a return hand on FAULT_NEW while ALERT_ENABLE is on, and mark a watch pass in
progress. -/
def Obligations.RaisesAndClearsFollowTheirRules : Prop :=
  (∀ (n : Node) (k : FaultKind) (src : Nat), n.clearFault k src = n.withFt { n.ft with
      entries := n.ft.entries.map fun e => if e.kind = k ∧ e.source = src then { e with active := false } else e })
    ∧ (∀ (t : FaultTable) (k : FaultKind) (src pass : Nat) (value : Option Int),
        let new : FaultEntry := {
          kind := k, source := src, active := true, count := 1, first := pass, last := pass, value := value }
        ((∀ e ∈ t.entries, ¬(e.kind = k ∧ e.source = src)) →
            (t.entries.length < 32 → t.raise k src pass value = { t with entries := t.entries ++ [new] })
            ∧ (t.entries.length = 32 → ∀ e ∈ t.entries.find? (fun e => !e.active),
                t.raise k src pass value = {
                  entries := t.entries.erase e ++ [new], evictions := min (t.evictions + 1) 255 }))
          ∧ ((∃ e ∈ t.entries, e.kind = k ∧ e.source = src) → t.raise k src pass value = { t with
              entries := t.entries.map fun e => if e.kind = k ∧ e.source = src
                then { e with
                  active := true
                  count := if e.active = true then e.count else min (e.count + 1) 255
                  last := pass
                  value := value } else e }))
    ∧ ∀ (n : Node) (k : FaultKind) (src pass : Nat) (value : Option Int),
        let m := n.withFt (n.ft.raise k src pass value)
        let news := ¬∃ e ∈ n.ft.entries, e.kind = k ∧ e.source = src ∧ e.active = true
        (¬news → n.raiseFault k src pass value = m)
          ∧ (news → n.raiseFault k src pass value = (m.withCh { n.ch with
              reasons := { n.ch.reasons with faultNew := n.ch.reasons.faultNew || n.cfg.alertEnable } }).withPc
                { n.pc with watchRaise := n.pc.watchRaise || n.pc.watchPass.isSome })

/-- R64 to R68: a result judged. In NORMAL, p results over in a row enter HIGH, p under LOW, and any other result ends
the run; entering raises the source's fault and zeroes the counts. In HIGH a result over raises again and zeroes the
release count; p results in a row that are not over return to NORMAL and clear the fault; LOW mirrors it. R45, R46: a
write fills the record, marks it fresh with the epoch in force, takes the extrema to the value or widens them, notes
the source for the pass (R69) and has the value judged. R69, R70: at a pass end in which every cell of the population
and STACK was written and no population change taken, a difference of the cells' sum and twenty times STACK above
SUM_TOL raises SUM_MISMATCH, any other clears it; an incomplete pass changes nothing. (It rests on log entry 21, the
model's own choices.) -/
def Obligations.ResultsAreWrittenAndJudged : Prop :=
  (∀ (r : LimitRec) (v : Int),
      let above : Prop := ∃ u ∈ r.cfg.upper, u < v
      let below : Prop := ∃ l ∈ r.cfg.lower, v < l
      let enter (st : LimitState) : LimitRec := { r with st := st, overCount := 0, underCount := 0, releaseCount := 0 }
      (r.st = .normal → above → r.cfg.p ≤ r.overCount + 1 → r.judge v = (enter .high, .raiseHigh))
        ∧ (r.st = .normal → above → r.overCount + 1 < r.cfg.p →
            r.judge v = ({ r with overCount := r.overCount + 1, underCount := 0 }, .nothing))
        ∧ (r.st = .normal → ¬above → below → r.cfg.p ≤ r.underCount + 1 → r.judge v = (enter .low, .raiseLow))
        ∧ (r.st = .normal → ¬above → below → r.underCount + 1 < r.cfg.p →
            r.judge v = ({ r with underCount := r.underCount + 1, overCount := 0 }, .nothing))
        ∧ (r.st = .normal → ¬above → ¬below → r.judge v = ({ r with overCount := 0, underCount := 0 }, .nothing))
        ∧ (r.st = .high → above → r.judge v = ({ r with releaseCount := 0 }, .raiseHigh))
        ∧ (r.st = .low → below → r.judge v = ({ r with releaseCount := 0 }, .raiseLow))
        ∧ (r.st = .high → ¬above → r.cfg.p ≤ r.releaseCount + 1 → r.judge v = (enter .normal, .clearHigh))
        ∧ (r.st = .low → ¬below → r.cfg.p ≤ r.releaseCount + 1 → r.judge v = (enter .normal, .clearLow))
        ∧ ((r.st = .high ∧ ¬above) ∨ (r.st = .low ∧ ¬below) → r.releaseCount + 1 < r.cfg.p →
            r.judge v = ({ r with releaseCount := r.releaseCount + 1 }, .nothing)))
    ∧ (∀ (n : Node) (src pass : Nat) (v : Int) (r : LimitRec), n.lm.recs.find? (fun r => r.source == src) = some r →
        let m := n.withLm { n.lm with recs := n.lm.recs.map fun r => if r.source = src then (r.judge v).1 else r }
        n.judge src pass v = (match (r.judge v).2 with
          | .nothing => m
          | .raiseHigh => m.raiseFault (highKind src) src pass (some v)
          | .raiseLow => m.raiseFault (lowKind src) src pass (some v)
          | .clearHigh => m.clearFault (highKind src) src
          | .clearLow => m.clearFault (lowKind src) src))
    ∧ (∀ (n : Node) (w : ResultWrite), n.writeResult w = ((n.withRt (n.rt.map fun r =>
        if r.source = w.source then { r with content := some {
          value := w.value
          fresh := true
          origin := w.origin
          epoch := n.seq.epoch
          pass := w.pass
          samples := w.samples
          spread := if 1 < w.samples then w.spread else none
          extrema := some (match r.content.bind Written.extrema with
            | none => { least := w.value, greatest := w.value }
            | some x => { least := min x.least w.value, greatest := max x.greatest w.value }) } } else r)).withLm
        { n.lm with passSources := if w.source ∈ n.lm.passSources then n.lm.passSources
            else w.source :: n.lm.passSources }).judge w.source w.pass w.value)
    ∧ (∀ (n : Node) (pass : Nat),
        let complete := n.lm.popMark = false ∧ 19 ∈ n.lm.passSources
          ∧ ∀ k ∈ List.range' 1 n.cfg.population, k ∈ n.lm.passSources
        let value (src : Nat) : Int := (findRecord n.rt src).elim 0 fun w => w.value
        let d := (((List.range' 1 n.cfg.population).map value).sum - 20 * value 19).natAbs
        (¬complete → n.plausibility pass = n)
          ∧ (complete → n.cfg.sumTol < d → n.plausibility pass = n.raiseFault .sumMismatch 0 pass (some (d : Int)))
          ∧ (complete → d ≤ n.cfg.sumTol → n.plausibility pass = n.clearFault .sumMismatch 0))
    ∧ (∀ k, 1 ≤ k → k ≤ 14 → highKind k = .cellHigh ∧ lowKind k = .cellLow)
    ∧ (∀ k, 15 ≤ k → k ≤ 18 → highKind k = .auxHigh ∧ lowKind k = .auxLow)
    ∧ highKind 19 = .stackHigh ∧ lowKind 19 = .stackLow ∧ highKind 20 = .dieHot ∧ lowKind 20 = .dieCold
    ∧ highKind 21 = .refFault ∧ lowKind 21 = .refFault

/-! ### Invariants: what every step keeps -/

/-- R102: after every step a closed switch is one of a RUNNING Equalizer in its window, with budget, not held and not
inhibited. -/
def Obligations.SwitchesCloseOnlyWhenTheyMay : Prop :=
  ∀ s t : State, s.SwitchLaw → step s = .next t → t.SwitchLaw

/-- R103: two adjacent channels are never both closed after a step, in a state whose switches keep R102 and whose duties
keep R99 (both stated as invariants of their own). -/
def Obligations.AdjacentChannelsAreNeverBothClosed : Prop :=
  ∀ s t : State, s.SwitchLaw → s.ChannelRanges → s.AdjacentLaw → step s = .next t →
    ∀ c ∈ t.eq.channels, ∀ d ∈ t.eq.channels, d.num = c.num + 1 → ¬(c.closed = true ∧ d.closed = true)

/-- R96, R140 to R143, R191: the states of the blocks agree after every step: IDLE owes nothing and RUNNING owes
something; DISABLED is standby, with the frame timer stopped; outside RUNNING every switch is open; while a
maintenance operation is in flight the sequencer converts nothing and the operation holds the converter or waits for
it. -/
def Obligations.StatesOfTheBlocksAgree : Prop :=
  ∀ s t : State, s.PowerLaw → s.EqStateLaw → s.ClientLaw → step s = .next t → t.PowerLaw ∧ t.EqStateLaw ∧ t.ClientLaw

/-- R165, R177: after every step the command and reply queues hold at most 4 frames, each forward buffer at most 2,
and the pending reply list has room for what the operation in flight and the save in progress still owe. -/
def Obligations.QueuesKeepTheirCapacities : Prop :=
  ∀ s t : State, s.CapacityLaw → step s = .next t → t.CapacityLaw

/-- R68, R80, R84: after every step the table holds at most 32 entries, no two of one pair, at most one ACTIVE
LINE_OPEN; a source in HIGH or LOW has its ACTIVE entry and an ACTIVE limit entry its source in that state. Room is
always found, since at most 28 entries can be ACTIVE (5.4). -/
def Obligations.FaultEntriesMatchTheLimitStates : Prop :=
  ∀ s t : State, s.FaultLaws → step s = .next t → t.FaultLaws ∧ t.ft.activeCount ≤ 28

/-- R129, R130: after every step each channel of a quiet request is open and will have been open for its settle time
at the grant time, and a GRANTED request's grant time has come: so while a request is GRANTED, every channel of its
set is open and has been open for at least the settle time. -/
def Obligations.GrantedQuietIsSettled : Prop :=
  ∀ s t : State, s.QuietLaw → step s = .next t → t.QuietLaw
    ∧ ∀ who, ∀ r ∈ t.eq.quiet.get who, r.granted = true → ∀ c ∈ t.eq.channels, c.num ∈ r.set →
        c.closed = false ∧ c.openSince + r.settle ≤ t.now

/-- After every step the clock stands at or before every armed expiry, and it never runs back: no timer is ever
missed. That an event never passes an armed expiry is the model's own choice of a form for time (DESIGN CHOICE, log
entry 4); the gap timer counts as passed only at the latest end of the symbol whose start bit stopped it (log entry
33). -/
def Obligations.TheClockNeverPassesAnExpiry : Prop :=
  ∀ s t : State, s.TimeLaw → step s = .next t → t.TimeLaw ∧ s.now ≤ t.now

/-- R99, R186, R44, R59: after every step the settings in force, in the image and in a snapshot hold values of their
items, the channels keep their ranges, and the Result Table, the Limit Monitor and the Equalizer hold one record for
each source and channel in order. -/
def Obligations.SettingsAndRecordsStayLegal : Prop :=
  ∀ s t : State, s.SettingsLaw → s.ChannelRanges → s.ChannelLaw → s.LimitTableLaw → s.ResultTableLaw →
    step s = .next t → t.SettingsLaw ∧ t.ChannelRanges ∧ t.ChannelLaw ∧ t.LimitTableLaw ∧ t.ResultTableLaw

/-- The state after reset satisfies every law stated above as an invariant. (It rests on log entries 13, 14, 15 and
17, the model's own choices.) -/
def Obligations.ResetSatisfiesEveryLaw : Prop :=
  State.reset.SwitchLaw ∧ State.reset.AdjacentLaw ∧ State.reset.PowerLaw ∧ State.reset.EqStateLaw
    ∧ State.reset.ClientLaw ∧ State.reset.CapacityLaw ∧ State.reset.FaultLaws ∧ State.reset.QuietLaw
    ∧ State.reset.TimeLaw ∧ State.reset.SettingsLaw ∧ State.reset.ChannelRanges ∧ State.reset.ChannelLaw
    ∧ State.reset.LimitTableLaw ∧ State.reset.ResultTableLaw

end
end

