-- ==== Sys2Proof/Laws/State.lean ====
section
/-! SUPPORT. What each update of a node leaves in each of its fields: one lemma per field per update. -/

namespace Sys2Proof.Machine.Node

@[simp] theorem withCfg_now (n : Node) (x : Settings) : (n.withCfg x).now = n.now := rfl
@[simp] theorem withCfg_identity (n : Node) (x : Settings) : (n.withCfg x).identity = n.identity := rfl
@[simp] theorem withCfg_cfg (n : Node) (x : Settings) : (n.withCfg x).cfg = x := rfl
@[simp] theorem withCfg_cu (n : Node) (x : Settings) : (n.withCfg x).cu = n.cu := rfl
@[simp] theorem withCfg_seq (n : Node) (x : Settings) : (n.withCfg x).seq = n.seq := rfl
@[simp] theorem withCfg_rt (n : Node) (x : Settings) : (n.withCfg x).rt = n.rt := rfl
@[simp] theorem withCfg_lm (n : Node) (x : Settings) : (n.withCfg x).lm = n.lm := rfl
@[simp] theorem withCfg_ft (n : Node) (x : Settings) : (n.withCfg x).ft = n.ft := rfl
@[simp] theorem withCfg_eq (n : Node) (x : Settings) : (n.withCfg x).eq = n.eq := rfl
@[simp] theorem withCfg_mu (n : Node) (x : Settings) : (n.withCfg x).mu = n.mu := rfl
@[simp] theorem withCfg_li (n : Node) (x : Settings) : (n.withCfg x).li = n.li := rfl
@[simp] theorem withCfg_ch (n : Node) (x : Settings) : (n.withCfg x).ch = n.ch := rfl
@[simp] theorem withCfg_ss (n : Node) (x : Settings) : (n.withCfg x).ss = n.ss := rfl
@[simp] theorem withCfg_pc (n : Node) (x : Settings) : (n.withCfg x).pc = n.pc := rfl

@[simp] theorem withCu_now (n : Node) (x : ConversionUnit) : (n.withCu x).now = n.now := rfl
@[simp] theorem withCu_identity (n : Node) (x : ConversionUnit) : (n.withCu x).identity = n.identity := rfl
@[simp] theorem withCu_cfg (n : Node) (x : ConversionUnit) : (n.withCu x).cfg = n.cfg := rfl
@[simp] theorem withCu_cu (n : Node) (x : ConversionUnit) : (n.withCu x).cu = x := rfl
@[simp] theorem withCu_seq (n : Node) (x : ConversionUnit) : (n.withCu x).seq = n.seq := rfl
@[simp] theorem withCu_rt (n : Node) (x : ConversionUnit) : (n.withCu x).rt = n.rt := rfl
@[simp] theorem withCu_lm (n : Node) (x : ConversionUnit) : (n.withCu x).lm = n.lm := rfl
@[simp] theorem withCu_ft (n : Node) (x : ConversionUnit) : (n.withCu x).ft = n.ft := rfl
@[simp] theorem withCu_eq (n : Node) (x : ConversionUnit) : (n.withCu x).eq = n.eq := rfl
@[simp] theorem withCu_mu (n : Node) (x : ConversionUnit) : (n.withCu x).mu = n.mu := rfl
@[simp] theorem withCu_li (n : Node) (x : ConversionUnit) : (n.withCu x).li = n.li := rfl
@[simp] theorem withCu_ch (n : Node) (x : ConversionUnit) : (n.withCu x).ch = n.ch := rfl
@[simp] theorem withCu_ss (n : Node) (x : ConversionUnit) : (n.withCu x).ss = n.ss := rfl
@[simp] theorem withCu_pc (n : Node) (x : ConversionUnit) : (n.withCu x).pc = n.pc := rfl

@[simp] theorem withSeq_now (n : Node) (x : Sequencer) : (n.withSeq x).now = n.now := rfl
@[simp] theorem withSeq_identity (n : Node) (x : Sequencer) : (n.withSeq x).identity = n.identity := rfl
@[simp] theorem withSeq_cfg (n : Node) (x : Sequencer) : (n.withSeq x).cfg = n.cfg := rfl
@[simp] theorem withSeq_cu (n : Node) (x : Sequencer) : (n.withSeq x).cu = n.cu := rfl
@[simp] theorem withSeq_seq (n : Node) (x : Sequencer) : (n.withSeq x).seq = x := rfl
@[simp] theorem withSeq_rt (n : Node) (x : Sequencer) : (n.withSeq x).rt = n.rt := rfl
@[simp] theorem withSeq_lm (n : Node) (x : Sequencer) : (n.withSeq x).lm = n.lm := rfl
@[simp] theorem withSeq_ft (n : Node) (x : Sequencer) : (n.withSeq x).ft = n.ft := rfl
@[simp] theorem withSeq_eq (n : Node) (x : Sequencer) : (n.withSeq x).eq = n.eq := rfl
@[simp] theorem withSeq_mu (n : Node) (x : Sequencer) : (n.withSeq x).mu = n.mu := rfl
@[simp] theorem withSeq_li (n : Node) (x : Sequencer) : (n.withSeq x).li = n.li := rfl
@[simp] theorem withSeq_ch (n : Node) (x : Sequencer) : (n.withSeq x).ch = n.ch := rfl
@[simp] theorem withSeq_ss (n : Node) (x : Sequencer) : (n.withSeq x).ss = n.ss := rfl
@[simp] theorem withSeq_pc (n : Node) (x : Sequencer) : (n.withSeq x).pc = n.pc := rfl

@[simp] theorem withRt_now (n : Node) (x : List Record) : (n.withRt x).now = n.now := rfl
@[simp] theorem withRt_identity (n : Node) (x : List Record) : (n.withRt x).identity = n.identity := rfl
@[simp] theorem withRt_cfg (n : Node) (x : List Record) : (n.withRt x).cfg = n.cfg := rfl
@[simp] theorem withRt_cu (n : Node) (x : List Record) : (n.withRt x).cu = n.cu := rfl
@[simp] theorem withRt_seq (n : Node) (x : List Record) : (n.withRt x).seq = n.seq := rfl
@[simp] theorem withRt_rt (n : Node) (x : List Record) : (n.withRt x).rt = x := rfl
@[simp] theorem withRt_lm (n : Node) (x : List Record) : (n.withRt x).lm = n.lm := rfl
@[simp] theorem withRt_ft (n : Node) (x : List Record) : (n.withRt x).ft = n.ft := rfl
@[simp] theorem withRt_eq (n : Node) (x : List Record) : (n.withRt x).eq = n.eq := rfl
@[simp] theorem withRt_mu (n : Node) (x : List Record) : (n.withRt x).mu = n.mu := rfl
@[simp] theorem withRt_li (n : Node) (x : List Record) : (n.withRt x).li = n.li := rfl
@[simp] theorem withRt_ch (n : Node) (x : List Record) : (n.withRt x).ch = n.ch := rfl
@[simp] theorem withRt_ss (n : Node) (x : List Record) : (n.withRt x).ss = n.ss := rfl
@[simp] theorem withRt_pc (n : Node) (x : List Record) : (n.withRt x).pc = n.pc := rfl

@[simp] theorem withLm_now (n : Node) (x : LimitMonitor) : (n.withLm x).now = n.now := rfl
@[simp] theorem withLm_identity (n : Node) (x : LimitMonitor) : (n.withLm x).identity = n.identity := rfl
@[simp] theorem withLm_cfg (n : Node) (x : LimitMonitor) : (n.withLm x).cfg = n.cfg := rfl
@[simp] theorem withLm_cu (n : Node) (x : LimitMonitor) : (n.withLm x).cu = n.cu := rfl
@[simp] theorem withLm_seq (n : Node) (x : LimitMonitor) : (n.withLm x).seq = n.seq := rfl
@[simp] theorem withLm_rt (n : Node) (x : LimitMonitor) : (n.withLm x).rt = n.rt := rfl
@[simp] theorem withLm_lm (n : Node) (x : LimitMonitor) : (n.withLm x).lm = x := rfl
@[simp] theorem withLm_ft (n : Node) (x : LimitMonitor) : (n.withLm x).ft = n.ft := rfl
@[simp] theorem withLm_eq (n : Node) (x : LimitMonitor) : (n.withLm x).eq = n.eq := rfl
@[simp] theorem withLm_mu (n : Node) (x : LimitMonitor) : (n.withLm x).mu = n.mu := rfl
@[simp] theorem withLm_li (n : Node) (x : LimitMonitor) : (n.withLm x).li = n.li := rfl
@[simp] theorem withLm_ch (n : Node) (x : LimitMonitor) : (n.withLm x).ch = n.ch := rfl
@[simp] theorem withLm_ss (n : Node) (x : LimitMonitor) : (n.withLm x).ss = n.ss := rfl
@[simp] theorem withLm_pc (n : Node) (x : LimitMonitor) : (n.withLm x).pc = n.pc := rfl

@[simp] theorem withFt_now (n : Node) (x : FaultTable) : (n.withFt x).now = n.now := rfl
@[simp] theorem withFt_identity (n : Node) (x : FaultTable) : (n.withFt x).identity = n.identity := rfl
@[simp] theorem withFt_cfg (n : Node) (x : FaultTable) : (n.withFt x).cfg = n.cfg := rfl
@[simp] theorem withFt_cu (n : Node) (x : FaultTable) : (n.withFt x).cu = n.cu := rfl
@[simp] theorem withFt_seq (n : Node) (x : FaultTable) : (n.withFt x).seq = n.seq := rfl
@[simp] theorem withFt_rt (n : Node) (x : FaultTable) : (n.withFt x).rt = n.rt := rfl
@[simp] theorem withFt_lm (n : Node) (x : FaultTable) : (n.withFt x).lm = n.lm := rfl
@[simp] theorem withFt_ft (n : Node) (x : FaultTable) : (n.withFt x).ft = x := rfl
@[simp] theorem withFt_eq (n : Node) (x : FaultTable) : (n.withFt x).eq = n.eq := rfl
@[simp] theorem withFt_mu (n : Node) (x : FaultTable) : (n.withFt x).mu = n.mu := rfl
@[simp] theorem withFt_li (n : Node) (x : FaultTable) : (n.withFt x).li = n.li := rfl
@[simp] theorem withFt_ch (n : Node) (x : FaultTable) : (n.withFt x).ch = n.ch := rfl
@[simp] theorem withFt_ss (n : Node) (x : FaultTable) : (n.withFt x).ss = n.ss := rfl
@[simp] theorem withFt_pc (n : Node) (x : FaultTable) : (n.withFt x).pc = n.pc := rfl

@[simp] theorem withEq_now (n : Node) (x : Equalizer) : (n.withEq x).now = n.now := rfl
@[simp] theorem withEq_identity (n : Node) (x : Equalizer) : (n.withEq x).identity = n.identity := rfl
@[simp] theorem withEq_cfg (n : Node) (x : Equalizer) : (n.withEq x).cfg = n.cfg := rfl
@[simp] theorem withEq_cu (n : Node) (x : Equalizer) : (n.withEq x).cu = n.cu := rfl
@[simp] theorem withEq_seq (n : Node) (x : Equalizer) : (n.withEq x).seq = n.seq := rfl
@[simp] theorem withEq_rt (n : Node) (x : Equalizer) : (n.withEq x).rt = n.rt := rfl
@[simp] theorem withEq_lm (n : Node) (x : Equalizer) : (n.withEq x).lm = n.lm := rfl
@[simp] theorem withEq_ft (n : Node) (x : Equalizer) : (n.withEq x).ft = n.ft := rfl
@[simp] theorem withEq_eq (n : Node) (x : Equalizer) : (n.withEq x).eq = x := rfl
@[simp] theorem withEq_mu (n : Node) (x : Equalizer) : (n.withEq x).mu = n.mu := rfl
@[simp] theorem withEq_li (n : Node) (x : Equalizer) : (n.withEq x).li = n.li := rfl
@[simp] theorem withEq_ch (n : Node) (x : Equalizer) : (n.withEq x).ch = n.ch := rfl
@[simp] theorem withEq_ss (n : Node) (x : Equalizer) : (n.withEq x).ss = n.ss := rfl
@[simp] theorem withEq_pc (n : Node) (x : Equalizer) : (n.withEq x).pc = n.pc := rfl

@[simp] theorem withMu_now (n : Node) (x : MaintenanceUnit) : (n.withMu x).now = n.now := rfl
@[simp] theorem withMu_identity (n : Node) (x : MaintenanceUnit) : (n.withMu x).identity = n.identity := rfl
@[simp] theorem withMu_cfg (n : Node) (x : MaintenanceUnit) : (n.withMu x).cfg = n.cfg := rfl
@[simp] theorem withMu_cu (n : Node) (x : MaintenanceUnit) : (n.withMu x).cu = n.cu := rfl
@[simp] theorem withMu_seq (n : Node) (x : MaintenanceUnit) : (n.withMu x).seq = n.seq := rfl
@[simp] theorem withMu_rt (n : Node) (x : MaintenanceUnit) : (n.withMu x).rt = n.rt := rfl
@[simp] theorem withMu_lm (n : Node) (x : MaintenanceUnit) : (n.withMu x).lm = n.lm := rfl
@[simp] theorem withMu_ft (n : Node) (x : MaintenanceUnit) : (n.withMu x).ft = n.ft := rfl
@[simp] theorem withMu_eq (n : Node) (x : MaintenanceUnit) : (n.withMu x).eq = n.eq := rfl
@[simp] theorem withMu_mu (n : Node) (x : MaintenanceUnit) : (n.withMu x).mu = x := rfl
@[simp] theorem withMu_li (n : Node) (x : MaintenanceUnit) : (n.withMu x).li = n.li := rfl
@[simp] theorem withMu_ch (n : Node) (x : MaintenanceUnit) : (n.withMu x).ch = n.ch := rfl
@[simp] theorem withMu_ss (n : Node) (x : MaintenanceUnit) : (n.withMu x).ss = n.ss := rfl
@[simp] theorem withMu_pc (n : Node) (x : MaintenanceUnit) : (n.withMu x).pc = n.pc := rfl

@[simp] theorem withLi_now (n : Node) (x : LinkInterface) : (n.withLi x).now = n.now := rfl
@[simp] theorem withLi_identity (n : Node) (x : LinkInterface) : (n.withLi x).identity = n.identity := rfl
@[simp] theorem withLi_cfg (n : Node) (x : LinkInterface) : (n.withLi x).cfg = n.cfg := rfl
@[simp] theorem withLi_cu (n : Node) (x : LinkInterface) : (n.withLi x).cu = n.cu := rfl
@[simp] theorem withLi_seq (n : Node) (x : LinkInterface) : (n.withLi x).seq = n.seq := rfl
@[simp] theorem withLi_rt (n : Node) (x : LinkInterface) : (n.withLi x).rt = n.rt := rfl
@[simp] theorem withLi_lm (n : Node) (x : LinkInterface) : (n.withLi x).lm = n.lm := rfl
@[simp] theorem withLi_ft (n : Node) (x : LinkInterface) : (n.withLi x).ft = n.ft := rfl
@[simp] theorem withLi_eq (n : Node) (x : LinkInterface) : (n.withLi x).eq = n.eq := rfl
@[simp] theorem withLi_mu (n : Node) (x : LinkInterface) : (n.withLi x).mu = n.mu := rfl
@[simp] theorem withLi_li (n : Node) (x : LinkInterface) : (n.withLi x).li = x := rfl
@[simp] theorem withLi_ch (n : Node) (x : LinkInterface) : (n.withLi x).ch = n.ch := rfl
@[simp] theorem withLi_ss (n : Node) (x : LinkInterface) : (n.withLi x).ss = n.ss := rfl
@[simp] theorem withLi_pc (n : Node) (x : LinkInterface) : (n.withLi x).pc = n.pc := rfl

@[simp] theorem withCh_now (n : Node) (x : CommandHandler) : (n.withCh x).now = n.now := rfl
@[simp] theorem withCh_identity (n : Node) (x : CommandHandler) : (n.withCh x).identity = n.identity := rfl
@[simp] theorem withCh_cfg (n : Node) (x : CommandHandler) : (n.withCh x).cfg = n.cfg := rfl
@[simp] theorem withCh_cu (n : Node) (x : CommandHandler) : (n.withCh x).cu = n.cu := rfl
@[simp] theorem withCh_seq (n : Node) (x : CommandHandler) : (n.withCh x).seq = n.seq := rfl
@[simp] theorem withCh_rt (n : Node) (x : CommandHandler) : (n.withCh x).rt = n.rt := rfl
@[simp] theorem withCh_lm (n : Node) (x : CommandHandler) : (n.withCh x).lm = n.lm := rfl
@[simp] theorem withCh_ft (n : Node) (x : CommandHandler) : (n.withCh x).ft = n.ft := rfl
@[simp] theorem withCh_eq (n : Node) (x : CommandHandler) : (n.withCh x).eq = n.eq := rfl
@[simp] theorem withCh_mu (n : Node) (x : CommandHandler) : (n.withCh x).mu = n.mu := rfl
@[simp] theorem withCh_li (n : Node) (x : CommandHandler) : (n.withCh x).li = n.li := rfl
@[simp] theorem withCh_ch (n : Node) (x : CommandHandler) : (n.withCh x).ch = x := rfl
@[simp] theorem withCh_ss (n : Node) (x : CommandHandler) : (n.withCh x).ss = n.ss := rfl
@[simp] theorem withCh_pc (n : Node) (x : CommandHandler) : (n.withCh x).pc = n.pc := rfl

@[simp] theorem withSs_now (n : Node) (x : SettingsStore) : (n.withSs x).now = n.now := rfl
@[simp] theorem withSs_identity (n : Node) (x : SettingsStore) : (n.withSs x).identity = n.identity := rfl
@[simp] theorem withSs_cfg (n : Node) (x : SettingsStore) : (n.withSs x).cfg = n.cfg := rfl
@[simp] theorem withSs_cu (n : Node) (x : SettingsStore) : (n.withSs x).cu = n.cu := rfl
@[simp] theorem withSs_seq (n : Node) (x : SettingsStore) : (n.withSs x).seq = n.seq := rfl
@[simp] theorem withSs_rt (n : Node) (x : SettingsStore) : (n.withSs x).rt = n.rt := rfl
@[simp] theorem withSs_lm (n : Node) (x : SettingsStore) : (n.withSs x).lm = n.lm := rfl
@[simp] theorem withSs_ft (n : Node) (x : SettingsStore) : (n.withSs x).ft = n.ft := rfl
@[simp] theorem withSs_eq (n : Node) (x : SettingsStore) : (n.withSs x).eq = n.eq := rfl
@[simp] theorem withSs_mu (n : Node) (x : SettingsStore) : (n.withSs x).mu = n.mu := rfl
@[simp] theorem withSs_li (n : Node) (x : SettingsStore) : (n.withSs x).li = n.li := rfl
@[simp] theorem withSs_ch (n : Node) (x : SettingsStore) : (n.withSs x).ch = n.ch := rfl
@[simp] theorem withSs_ss (n : Node) (x : SettingsStore) : (n.withSs x).ss = x := rfl
@[simp] theorem withSs_pc (n : Node) (x : SettingsStore) : (n.withSs x).pc = n.pc := rfl

@[simp] theorem withPc_now (n : Node) (x : PowerController) : (n.withPc x).now = n.now := rfl
@[simp] theorem withPc_identity (n : Node) (x : PowerController) : (n.withPc x).identity = n.identity := rfl
@[simp] theorem withPc_cfg (n : Node) (x : PowerController) : (n.withPc x).cfg = n.cfg := rfl
@[simp] theorem withPc_cu (n : Node) (x : PowerController) : (n.withPc x).cu = n.cu := rfl
@[simp] theorem withPc_seq (n : Node) (x : PowerController) : (n.withPc x).seq = n.seq := rfl
@[simp] theorem withPc_rt (n : Node) (x : PowerController) : (n.withPc x).rt = n.rt := rfl
@[simp] theorem withPc_lm (n : Node) (x : PowerController) : (n.withPc x).lm = n.lm := rfl
@[simp] theorem withPc_ft (n : Node) (x : PowerController) : (n.withPc x).ft = n.ft := rfl
@[simp] theorem withPc_eq (n : Node) (x : PowerController) : (n.withPc x).eq = n.eq := rfl
@[simp] theorem withPc_mu (n : Node) (x : PowerController) : (n.withPc x).mu = n.mu := rfl
@[simp] theorem withPc_li (n : Node) (x : PowerController) : (n.withPc x).li = n.li := rfl
@[simp] theorem withPc_ch (n : Node) (x : PowerController) : (n.withPc x).ch = n.ch := rfl
@[simp] theorem withPc_ss (n : Node) (x : PowerController) : (n.withPc x).ss = n.ss := rfl
@[simp] theorem withPc_pc (n : Node) (x : PowerController) : (n.withPc x).pc = x := rfl

@[simp] theorem withNow_now (n : Node) (x : Nat) : (n.withNow x).now = x := rfl
@[simp] theorem withNow_identity (n : Node) (x : Nat) : (n.withNow x).identity = n.identity := rfl
@[simp] theorem withNow_cfg (n : Node) (x : Nat) : (n.withNow x).cfg = n.cfg := rfl
@[simp] theorem withNow_cu (n : Node) (x : Nat) : (n.withNow x).cu = n.cu := rfl
@[simp] theorem withNow_seq (n : Node) (x : Nat) : (n.withNow x).seq = n.seq := rfl
@[simp] theorem withNow_rt (n : Node) (x : Nat) : (n.withNow x).rt = n.rt := rfl
@[simp] theorem withNow_lm (n : Node) (x : Nat) : (n.withNow x).lm = n.lm := rfl
@[simp] theorem withNow_ft (n : Node) (x : Nat) : (n.withNow x).ft = n.ft := rfl
@[simp] theorem withNow_eq (n : Node) (x : Nat) : (n.withNow x).eq = n.eq := rfl
@[simp] theorem withNow_mu (n : Node) (x : Nat) : (n.withNow x).mu = n.mu := rfl
@[simp] theorem withNow_li (n : Node) (x : Nat) : (n.withNow x).li = n.li := rfl
@[simp] theorem withNow_ch (n : Node) (x : Nat) : (n.withNow x).ch = n.ch := rfl
@[simp] theorem withNow_ss (n : Node) (x : Nat) : (n.withNow x).ss = n.ss := rfl
@[simp] theorem withNow_pc (n : Node) (x : Nat) : (n.withNow x).pc = n.pc := rfl

end Sys2Proof.Machine.Node
end

