-- ==== Sys2Proof/Laws/Rows.lean ====
section
/-! SUPPORT. One lemma for each shape of a row: what it does when its event can occur, and that it does nothing when it
cannot. A proof about a row cites these and never unfolds the shape. -/

namespace Sys2Proof.Machine

theorem State.onNode_eq (s : State) (f : Node → Node) :
    s.onNode f = .next { s with toNode := f s.toNode } := rfl

namespace Node

@[simp] theorem left_ch (n : Node) (rest : List Frame) : (n.left rest).ch = { n.ch with cmdQueue := rest } := rfl
@[simp] theorem left_now (n : Node) (rest : List Frame) : (n.left rest).now = n.now := rfl
@[simp] theorem left_identity (n : Node) (rest : List Frame) : (n.left rest).identity = n.identity := rfl
@[simp] theorem left_cfg (n : Node) (rest : List Frame) : (n.left rest).cfg = n.cfg := rfl
@[simp] theorem left_cu (n : Node) (rest : List Frame) : (n.left rest).cu = n.cu := rfl
@[simp] theorem left_seq (n : Node) (rest : List Frame) : (n.left rest).seq = n.seq := rfl
@[simp] theorem left_rt (n : Node) (rest : List Frame) : (n.left rest).rt = n.rt := rfl
@[simp] theorem left_lm (n : Node) (rest : List Frame) : (n.left rest).lm = n.lm := rfl
@[simp] theorem left_ft (n : Node) (rest : List Frame) : (n.left rest).ft = n.ft := rfl
@[simp] theorem left_eq (n : Node) (rest : List Frame) : (n.left rest).eq = n.eq := rfl
@[simp] theorem left_mu (n : Node) (rest : List Frame) : (n.left rest).mu = n.mu := rfl
@[simp] theorem left_li (n : Node) (rest : List Frame) : (n.left rest).li = n.li := rfl
@[simp] theorem left_ss (n : Node) (rest : List Frame) : (n.left rest).ss = n.ss := rfl
@[simp] theorem left_pc (n : Node) (rest : List Frame) : (n.left rest).pc = n.pc := rfl

/-- R176: what `canTake` asks. -/
theorem canTake_iff (n : Node) :
    n.canTake = true ↔ n.pc.power = .active ∧ n.ch.replyQueue.length < 4 ∧ n.ch.pendingReplies = [] := by
  simp only [canTake, replyFree, Bool.and_eq_true, beq_iff_eq, decide_eq_true_eq, List.isEmpty_iff, and_assoc]
  exact Iff.rfl

/-- R176: a row takes the frame at the front when it is about it. -/
theorem takeFrame_of_takes {n : Node} {f : Frame} {rest : List Frame} (h : n.Takes f rest) {isRow : Frame → Bool}
    (hr : isRow f = true) : n.takeFrame isRow = some (f, n.left rest) := by
  have hc : n.canTake = true := n.canTake_iff.mpr h.2
  simp [takeFrame, h.1, hc, hr, left]

/-- R175, R176: a command row taken. -/
theorem command_of_takes {n : Node} {f : Frame} {rest : List Frame} (h : n.Takes f rest) {isRow : Frame → Bool}
    (hr : isRow f = true) (fits : List Byte → Bool) (judge : Frame → Node → Node) :
    n.command isRow fits judge
      = (if fits f.payload then judge f (n.left rest) else (n.left rest).answer f .badLength []).finish := by
  simp [command, takeFrame_of_takes h hr]

/-- R176: a command row leaves the node as it is while the handler can take nothing. -/
theorem command_of_blocked {n : Node} (h : n.canTake = false ∨ n.ch.cmdQueue = []) (isRow : Frame → Bool)
    (fits : List Byte → Bool) (judge : Frame → Node → Node) : n.command isRow fits judge = n := by
  unfold command takeFrame
  cases hq : n.ch.cmdQueue with
  | nil => rfl
  | cons f rest =>
    rcases h with h | h
    · simp [h]
    · simp [hq] at h

/-- A command row leaves the node as it is while the frame at the front is another row's (log entry 2). -/
theorem command_of_other {n : Node} {isRow : Frame → Bool} (h : ∀ f ∈ n.ch.cmdQueue.head?, isRow f = false)
    (fits : List Byte → Bool) (judge : Frame → Node → Node) : n.command isRow fits judge = n := by
  unfold command takeFrame
  cases hq : n.ch.cmdQueue with
  | nil => rfl
  | cons f rest => simp [h f (by simp [hq])]

/-- A command row either leaves the node or ends in `finish` after the command was taken. -/
theorem command_cases (n : Node) (isRow : Frame → Bool) (fits : List Byte → Bool) (judge : Frame → Node → Node) :
    n.command isRow fits judge = n ∨ ∃ f rest, n.Takes f rest ∧ isRow f = true ∧
      n.command isRow fits judge
        = (if fits f.payload then judge f (n.left rest) else (n.left rest).answer f .badLength []).finish := by
  by_cases hc : n.canTake = true
  · cases hq : n.ch.cmdQueue with
    | nil => exact .inl (command_of_blocked (.inr hq) ..)
    | cons f rest =>
      by_cases hr : isRow f = true
      · have ht : n.Takes f rest := ⟨hq, n.canTake_iff.mp hc⟩
        exact .inr ⟨f, rest, ht, hr, command_of_takes ht hr ..⟩
      · exact .inl (command_of_other (by simp [hq, hr]) ..)
  · exact .inl (command_of_blocked (.inl (by simpa using hc)) ..)

/-- What `reach` asks. -/
theorem reach_eq (n : Node) (t : Nat) [Decidable (n.Due t)] :
    n.reach t = if n.Due t then some (n.withNow t) else none := by
  simp [reach, Due]

theorem reach_of_due {n : Node} {t : Nat} (h : n.Due t) : n.reach t = some (n.withNow t) := by
  rw [reach_eq, if_pos h]

/-- A timer row at its expiry. -/
theorem timed_of_due {n : Node} {t : Nat} (h : n.Due t) (act : Nat → Node → Node) :
    n.timed (some t) act = (act t (n.withNow t)).finish := by
  simp [timed, reach_of_due h]

/-- A timer row whose timer is not armed leaves the node as it is (log entry 2). -/
theorem timed_none (n : Node) (act : Nat → Node → Node) : n.timed none act = n := rfl

/-- A timer row leaves the node, or acts at the expiry, when that is due. -/
theorem timed_cases (n : Node) (t? : Option Nat) (act : Nat → Node → Node) :
    n.timed t? act = n ∨ ∃ t, t? = some t ∧ n.Due t ∧ n.timed t? act = (act t (n.withNow t)).finish := by
  cases t? with
  | none => exact .inl rfl
  | some t =>
    by_cases h : n.Due t
    · exact .inr ⟨t, rfl, h, timed_of_due h act⟩
    · exact .inl (by simp [timed, reach_eq, h])

/-- A timer row whose expiry the clock has passed leaves the node as it is. -/
theorem timed_of_passed {n : Node} {t : Nat} (h : t < n.now) (act : Nat → Node → Node) : n.timed (some t) act = n := by
  have : ¬n.Due t := fun hd => Nat.not_lt.mpr hd.1 h
  simp [timed, reach_eq, this]

theorem foldl_min_le (l : List Nat) (a : Nat) : l.foldl min a ≤ a ∧ ∀ d ∈ l, l.foldl min a ≤ d := by
  induction l generalizing a with
  | nil => simp
  | cons x l ih =>
    obtain ⟨h1, h2⟩ := ih (min a x)
    refine ⟨h1.trans (min_le_left ..), fun d hd => ?_⟩
    rcases List.mem_cons.mp hd with rfl | hd
    · exact h1.trans (min_le_right ..)
    · exact h2 d hd

theorem foldl_min_of_le {l : List Nat} {a : Nat} (h : ∀ d ∈ l, a ≤ d) : l.foldl min a = a := by
  induction l generalizing a with
  | nil => rfl
  | cons x l ih =>
    simp only [List.foldl_cons]
    rw [Nat.min_eq_left (h x (by simp))]
    exact ih fun d hd => h d (by simp [hd])

/-- The clock moves by `dt` when nothing happens of itself before. -/
theorem elapse_of_calm {n : Node} {dt : Nat} (h : n.Calm dt) : n.elapse dt = n.withNow (n.now + dt) := by
  simp [elapse, foldl_min_of_le h]

/-- The clock never passes an armed expiry (log entry 4). -/
theorem elapse_now_le {n : Node} (h : n.TimeLaw) (dt : Nat) : ∀ d ∈ n.deadlines, (n.elapse dt).now ≤ d := by
  intro d hd
  simp only [elapse, withNow_now]
  exact max_le (h d hd) ((foldl_min_le _ _).2 d hd)

/-- An event from outside, when nothing happens of itself before it. -/
theorem outside_of_calm {n : Node} {dt : Nat} (h : n.Calm dt) (act : Node → Node) :
    n.outside dt act = (act (n.withNow (n.now + dt))).finish := by
  simp [outside, elapse_of_calm h]

/-- R159: what `hears` asks. -/
theorem hears_iff (l : LaneState) (t : Nat) (y : LineSymbol) : l.hears t y = true ↔ l.Hears t y := by
  cases hw : l.waiting
  · simp [LaneState.hears, LaneState.Hears, LineSymbol.starts, Config.symbolTime, hw]
  · have h : l.lastEnd + 1 + 11 ≤ t ↔ l.lastEnd + 12 ≤ t := by omega
    have h' : l.lastEnd + 12 ≤ t → l.lastEnd + 11 ≤ t := by omega
    simp [LaneState.hears, LaneState.Hears, LineSymbol.starts, Config.bitTime, Config.symbolTime, hw, h]
    tauto

/-- A symbol row, when the receivers run, the lane hears the symbol and it is what the row says. -/
theorem laneRow_of_calm {n : Node} {dt : Nat} (h : n.Calm dt) (hp : n.pc.receiving = true) {k : Lane}
    {y : LineSymbol} (hy : (n.li.lane k).Hears (n.now + dt) y) {row : SymbolEvent → Option (Node → Node)}
    {act : Node → Node} (hr : row ((n.li.lane k).rx.take y) = some act) :
    n.laneRow dt k y row = (act ((n.withNow (n.now + dt)).noteSymbol k y)).finish := by
  simp [laneRow, hp, hr, elapse_of_calm h, (hears_iff _ _ _).mpr hy]

/-- A symbol row leaves the node when the lane does not hear the symbol (log entry 2). -/
theorem laneRow_of_unheard {n : Node} {dt : Nat} (h : n.Calm dt) {k : Lane} {y : LineSymbol}
    (hy : ¬(n.li.lane k).Hears (n.now + dt) y) (row : SymbolEvent → Option (Node → Node)) :
    n.laneRow dt k y row = n := by
  have : (n.li.lane k).hears (n.now + dt) y = false := by
    simpa using fun hh => hy ((hears_iff _ _ _).mp hh)
  simp [laneRow, elapse_of_calm h, this]

/-- A symbol row leaves the node when the receivers are stopped, the lane does not hear the symbol or the symbol is
something else (log entry 2). -/
theorem laneRow_cases (n : Node) (dt : Nat) (k : Lane) (y : LineSymbol)
    (row : SymbolEvent → Option (Node → Node)) :
    n.laneRow dt k y row = n ∨ ∃ act, n.pc.receiving = true ∧ (n.li.lane k).Hears (n.elapse dt).now y
      ∧ row ((n.li.lane k).rx.take y) = some act
      ∧ n.laneRow dt k y row = (act ((n.elapse dt).noteSymbol k y)).finish := by
  by_cases hp : (n.pc.receiving && (n.li.lane k).hears (n.elapse dt).now y) = true
  · cases h : row ((n.li.lane k).rx.take y) with
    | none => exact .inl (by simp [laneRow, h])
    | some act =>
      have hq := hp
      simp only [Bool.and_eq_true, hears_iff] at hq
      exact .inr ⟨act, hq.1, hq.2, rfl, by simp only [laneRow, hp, h, if_true]⟩
  · exact .inl (by simp only [laneRow, hp]; rfl)

end Node

end Sys2Proof.Machine
end

