-- ==== Sys2Proof/Laws/EndOfEvent.lean ====
section
/-! SUPPORT. What the parts of the end of an event leave as it is: `enforceOpen` writes the switches only, `fillReplies`
and `queueAlert` the Command Handler only, `startTxS` and `startTxN` the Link Interface only. -/

namespace Sys2Proof.Machine.Node

@[simp] theorem enforceOpen_now (n : Node) : (n.enforceOpen).now = n.now := by
  unfold enforceOpen; rfl
@[simp] theorem enforceOpen_identity (n : Node) : (n.enforceOpen).identity = n.identity := by
  unfold enforceOpen; rfl
@[simp] theorem enforceOpen_cfg (n : Node) : (n.enforceOpen).cfg = n.cfg := by
  unfold enforceOpen; rfl
@[simp] theorem enforceOpen_cu (n : Node) : (n.enforceOpen).cu = n.cu := by
  unfold enforceOpen; rfl
@[simp] theorem enforceOpen_seq (n : Node) : (n.enforceOpen).seq = n.seq := by
  unfold enforceOpen; rfl
@[simp] theorem enforceOpen_rt (n : Node) : (n.enforceOpen).rt = n.rt := by
  unfold enforceOpen; rfl
@[simp] theorem enforceOpen_lm (n : Node) : (n.enforceOpen).lm = n.lm := by
  unfold enforceOpen; rfl
@[simp] theorem enforceOpen_ft (n : Node) : (n.enforceOpen).ft = n.ft := by
  unfold enforceOpen; rfl
@[simp] theorem enforceOpen_mu (n : Node) : (n.enforceOpen).mu = n.mu := by
  unfold enforceOpen; rfl
@[simp] theorem enforceOpen_li (n : Node) : (n.enforceOpen).li = n.li := by
  unfold enforceOpen; rfl
@[simp] theorem enforceOpen_ch (n : Node) : (n.enforceOpen).ch = n.ch := by
  unfold enforceOpen; rfl
@[simp] theorem enforceOpen_ss (n : Node) : (n.enforceOpen).ss = n.ss := by
  unfold enforceOpen; rfl
@[simp] theorem enforceOpen_pc (n : Node) : (n.enforceOpen).pc = n.pc := by
  unfold enforceOpen; rfl

@[simp] theorem fillReplies_now (n : Node) : (n.fillReplies).now = n.now := by
  unfold fillReplies; rfl
@[simp] theorem fillReplies_identity (n : Node) : (n.fillReplies).identity = n.identity := by
  unfold fillReplies; rfl
@[simp] theorem fillReplies_cfg (n : Node) : (n.fillReplies).cfg = n.cfg := by
  unfold fillReplies; rfl
@[simp] theorem fillReplies_cu (n : Node) : (n.fillReplies).cu = n.cu := by
  unfold fillReplies; rfl
@[simp] theorem fillReplies_seq (n : Node) : (n.fillReplies).seq = n.seq := by
  unfold fillReplies; rfl
@[simp] theorem fillReplies_rt (n : Node) : (n.fillReplies).rt = n.rt := by
  unfold fillReplies; rfl
@[simp] theorem fillReplies_lm (n : Node) : (n.fillReplies).lm = n.lm := by
  unfold fillReplies; rfl
@[simp] theorem fillReplies_ft (n : Node) : (n.fillReplies).ft = n.ft := by
  unfold fillReplies; rfl
@[simp] theorem fillReplies_eq (n : Node) : (n.fillReplies).eq = n.eq := by
  unfold fillReplies; rfl
@[simp] theorem fillReplies_mu (n : Node) : (n.fillReplies).mu = n.mu := by
  unfold fillReplies; rfl
@[simp] theorem fillReplies_li (n : Node) : (n.fillReplies).li = n.li := by
  unfold fillReplies; rfl
@[simp] theorem fillReplies_ss (n : Node) : (n.fillReplies).ss = n.ss := by
  unfold fillReplies; rfl
@[simp] theorem fillReplies_pc (n : Node) : (n.fillReplies).pc = n.pc := by
  unfold fillReplies; rfl

@[simp] theorem queueAlert_now (n : Node) : (n.queueAlert).now = n.now := by
  unfold queueAlert; split <;> rfl
@[simp] theorem queueAlert_identity (n : Node) : (n.queueAlert).identity = n.identity := by
  unfold queueAlert; split <;> rfl
@[simp] theorem queueAlert_cfg (n : Node) : (n.queueAlert).cfg = n.cfg := by
  unfold queueAlert; split <;> rfl
@[simp] theorem queueAlert_cu (n : Node) : (n.queueAlert).cu = n.cu := by
  unfold queueAlert; split <;> rfl
@[simp] theorem queueAlert_seq (n : Node) : (n.queueAlert).seq = n.seq := by
  unfold queueAlert; split <;> rfl
@[simp] theorem queueAlert_rt (n : Node) : (n.queueAlert).rt = n.rt := by
  unfold queueAlert; split <;> rfl
@[simp] theorem queueAlert_lm (n : Node) : (n.queueAlert).lm = n.lm := by
  unfold queueAlert; split <;> rfl
@[simp] theorem queueAlert_ft (n : Node) : (n.queueAlert).ft = n.ft := by
  unfold queueAlert; split <;> rfl
@[simp] theorem queueAlert_eq (n : Node) : (n.queueAlert).eq = n.eq := by
  unfold queueAlert; split <;> rfl
@[simp] theorem queueAlert_mu (n : Node) : (n.queueAlert).mu = n.mu := by
  unfold queueAlert; split <;> rfl
@[simp] theorem queueAlert_li (n : Node) : (n.queueAlert).li = n.li := by
  unfold queueAlert; split <;> rfl
@[simp] theorem queueAlert_ss (n : Node) : (n.queueAlert).ss = n.ss := by
  unfold queueAlert; split <;> rfl
@[simp] theorem queueAlert_pc (n : Node) : (n.queueAlert).pc = n.pc := by
  unfold queueAlert; split <;> rfl

@[simp] theorem startTxS_now (n : Node) : (n.startTxS).now = n.now := by
  unfold startTxS; (repeat' split) <;> rfl
@[simp] theorem startTxS_identity (n : Node) : (n.startTxS).identity = n.identity := by
  unfold startTxS; (repeat' split) <;> rfl
@[simp] theorem startTxS_cfg (n : Node) : (n.startTxS).cfg = n.cfg := by
  unfold startTxS; (repeat' split) <;> rfl
@[simp] theorem startTxS_cu (n : Node) : (n.startTxS).cu = n.cu := by
  unfold startTxS; (repeat' split) <;> rfl
@[simp] theorem startTxS_seq (n : Node) : (n.startTxS).seq = n.seq := by
  unfold startTxS; (repeat' split) <;> rfl
@[simp] theorem startTxS_rt (n : Node) : (n.startTxS).rt = n.rt := by
  unfold startTxS; (repeat' split) <;> rfl
@[simp] theorem startTxS_lm (n : Node) : (n.startTxS).lm = n.lm := by
  unfold startTxS; (repeat' split) <;> rfl
@[simp] theorem startTxS_ft (n : Node) : (n.startTxS).ft = n.ft := by
  unfold startTxS; (repeat' split) <;> rfl
@[simp] theorem startTxS_eq (n : Node) : (n.startTxS).eq = n.eq := by
  unfold startTxS; (repeat' split) <;> rfl
@[simp] theorem startTxS_mu (n : Node) : (n.startTxS).mu = n.mu := by
  unfold startTxS; (repeat' split) <;> rfl
@[simp] theorem startTxS_ch (n : Node) : (n.startTxS).ch = n.ch := by
  unfold startTxS; (repeat' split) <;> rfl
@[simp] theorem startTxS_ss (n : Node) : (n.startTxS).ss = n.ss := by
  unfold startTxS; (repeat' split) <;> rfl
@[simp] theorem startTxS_pc (n : Node) : (n.startTxS).pc = n.pc := by
  unfold startTxS; (repeat' split) <;> rfl

@[simp] theorem startTxN_now (n : Node) : (n.startTxN).now = n.now := by
  unfold startTxN; split <;> rfl
@[simp] theorem startTxN_identity (n : Node) : (n.startTxN).identity = n.identity := by
  unfold startTxN; split <;> rfl
@[simp] theorem startTxN_cfg (n : Node) : (n.startTxN).cfg = n.cfg := by
  unfold startTxN; split <;> rfl
@[simp] theorem startTxN_cu (n : Node) : (n.startTxN).cu = n.cu := by
  unfold startTxN; split <;> rfl
@[simp] theorem startTxN_seq (n : Node) : (n.startTxN).seq = n.seq := by
  unfold startTxN; split <;> rfl
@[simp] theorem startTxN_rt (n : Node) : (n.startTxN).rt = n.rt := by
  unfold startTxN; split <;> rfl
@[simp] theorem startTxN_lm (n : Node) : (n.startTxN).lm = n.lm := by
  unfold startTxN; split <;> rfl
@[simp] theorem startTxN_ft (n : Node) : (n.startTxN).ft = n.ft := by
  unfold startTxN; split <;> rfl
@[simp] theorem startTxN_eq (n : Node) : (n.startTxN).eq = n.eq := by
  unfold startTxN; split <;> rfl
@[simp] theorem startTxN_mu (n : Node) : (n.startTxN).mu = n.mu := by
  unfold startTxN; split <;> rfl
@[simp] theorem startTxN_ch (n : Node) : (n.startTxN).ch = n.ch := by
  unfold startTxN; split <;> rfl
@[simp] theorem startTxN_ss (n : Node) : (n.startTxN).ss = n.ss := by
  unfold startTxN; split <;> rfl
@[simp] theorem startTxN_pc (n : Node) : (n.startTxN).pc = n.pc := by
  unfold startTxN; split <;> rfl

@[simp] theorem finish_now (n : Node) : (n.finish).now = n.now := by
  simp [finish]
@[simp] theorem finish_identity (n : Node) : (n.finish).identity = n.identity := by
  simp [finish]
@[simp] theorem finish_cfg (n : Node) : (n.finish).cfg = n.cfg := by
  simp [finish]
@[simp] theorem finish_cu (n : Node) : (n.finish).cu = n.cu := by
  simp [finish]
@[simp] theorem finish_seq (n : Node) : (n.finish).seq = n.seq := by
  simp [finish]
@[simp] theorem finish_rt (n : Node) : (n.finish).rt = n.rt := by
  simp [finish]
@[simp] theorem finish_lm (n : Node) : (n.finish).lm = n.lm := by
  simp [finish]
@[simp] theorem finish_ft (n : Node) : (n.finish).ft = n.ft := by
  simp [finish]
@[simp] theorem finish_mu (n : Node) : (n.finish).mu = n.mu := by
  simp [finish]
@[simp] theorem finish_ss (n : Node) : (n.finish).ss = n.ss := by
  simp [finish]
@[simp] theorem finish_pc (n : Node) : (n.finish).pc = n.pc := by
  simp [finish]
/-- The switches a finished event leaves are those `enforceOpen` leaves. -/
@[simp] theorem finish_eq (n : Node) : n.finish.eq = n.enforceOpen.eq := by simp [finish]

/-- The Command Handler a finished event leaves is the one `queueAlert` leaves. -/
@[simp] theorem finish_ch (n : Node) : n.finish.ch = n.enforceOpen.fillReplies.queueAlert.ch := by simp [finish]

/-- Of the Link Interface a finished event writes the two transmissions and the last sender. -/
theorem finish_li (n : Node) : n.finish.li = { n.li with
    txN := n.finish.li.txN, txS := n.finish.li.txS, lastSender := n.finish.li.lastSender } := by
  have hN : ∀ m : Node, m.startTxN.li = { m.li with txN := m.startTxN.li.txN } := by
    intro m; unfold startTxN; split <;> rfl
  have hS : ∀ m : Node, m.startTxS.li
      = { m.li with txS := m.startTxS.li.txS, lastSender := m.startTxS.li.lastSender } := by
    intro m; unfold startTxS; (repeat' split) <;> rfl
  unfold finish
  rw [hN, hS]
  simp

/-- R102, R104: after an event a closed switch is one that may be closed. -/
theorem finish_switchLaw (n : Node) : n.finish.SwitchLaw := by
  intro c hc hclosed
  simp only [finish_eq, enforceOpen, Equalizer.mapChannels, withEq_eq, List.mem_map] at hc
  obtain ⟨d, hd, rfl⟩ := hc
  split at hclosed
  · rename_i h
    have : n.finish.mayClose n.finish.eq.slot d = n.mayClose n.eq.slot d := by
      simp [mayClose, inhibited, inhibitsAll, lineInhibits, auxHeat, enforceOpen, Equalizer.mapChannels]
    simp only [h, if_true]
    rw [this, h]
  · simp [Channel.openAt] at hclosed
    split at hclosed <;> simp_all

end Sys2Proof.Machine.Node
end

