-- ==== Sys2Proof/Laws/Frames.lean ====
section
/-! SUPPORT. What each shared operation leaves as it is: one lemma for each operation, naming every block it does not
write. -/

namespace Sys2Proof.Machine.Node

@[simp] theorem addReason_frame (n : Node) (f : AlertReasons → AlertReasons) :
    (n.addReason f).now = n.now ∧ (n.addReason f).identity = n.identity ∧ (n.addReason f).cfg = n.cfg
      ∧ (n.addReason f).cu = n.cu ∧ (n.addReason f).seq = n.seq ∧ (n.addReason f).rt = n.rt
      ∧ (n.addReason f).lm = n.lm ∧ (n.addReason f).ft = n.ft ∧ (n.addReason f).eq = n.eq
      ∧ (n.addReason f).mu = n.mu ∧ (n.addReason f).li = n.li ∧ (n.addReason f).ss = n.ss
      ∧ (n.addReason f).pc = n.pc := by
  unfold addReason
  (repeat' split) <;> simp

@[simp] theorem noteNews_frame (n : Node) :
    n.noteNews.now = n.now ∧ n.noteNews.identity = n.identity ∧ n.noteNews.cfg = n.cfg
      ∧ n.noteNews.cu = n.cu ∧ n.noteNews.seq = n.seq ∧ n.noteNews.rt = n.rt ∧ n.noteNews.lm = n.lm
      ∧ n.noteNews.ft = n.ft ∧ n.noteNews.eq = n.eq ∧ n.noteNews.mu = n.mu ∧ n.noteNews.li = n.li
      ∧ n.noteNews.ss = n.ss := by
  unfold noteNews
  dsimp only
  split <;> simp

@[simp] theorem raiseFault_frame (n : Node) (k : FaultKind) (src pass : Nat) (v : Option Int) :
    (n.raiseFault k src pass v).now = n.now ∧ (n.raiseFault k src pass v).identity = n.identity
      ∧ (n.raiseFault k src pass v).cfg = n.cfg ∧ (n.raiseFault k src pass v).cu = n.cu
      ∧ (n.raiseFault k src pass v).seq = n.seq ∧ (n.raiseFault k src pass v).rt = n.rt
      ∧ (n.raiseFault k src pass v).lm = n.lm ∧ (n.raiseFault k src pass v).eq = n.eq
      ∧ (n.raiseFault k src pass v).mu = n.mu ∧ (n.raiseFault k src pass v).li = n.li
      ∧ (n.raiseFault k src pass v).ss = n.ss := by
  unfold raiseFault
  (repeat' split) <;> simp

@[simp] theorem clearFault_frame (n : Node) (k : FaultKind) (src : Nat) :
    (n.clearFault k src).now = n.now ∧ (n.clearFault k src).identity = n.identity
      ∧ (n.clearFault k src).cfg = n.cfg ∧ (n.clearFault k src).cu = n.cu ∧ (n.clearFault k src).seq = n.seq
      ∧ (n.clearFault k src).rt = n.rt ∧ (n.clearFault k src).lm = n.lm ∧ (n.clearFault k src).eq = n.eq
      ∧ (n.clearFault k src).mu = n.mu ∧ (n.clearFault k src).li = n.li ∧ (n.clearFault k src).ch = n.ch
      ∧ (n.clearFault k src).ss = n.ss ∧ (n.clearFault k src).pc = n.pc := by
  unfold clearFault
  simp

@[simp] theorem applyVerdict_frame (n : Node) (src pass : Nat) (v : Int) (d : Verdict) :
    (n.applyVerdict src pass v d).now = n.now ∧ (n.applyVerdict src pass v d).identity = n.identity
      ∧ (n.applyVerdict src pass v d).cfg = n.cfg ∧ (n.applyVerdict src pass v d).cu = n.cu
      ∧ (n.applyVerdict src pass v d).seq = n.seq ∧ (n.applyVerdict src pass v d).rt = n.rt
      ∧ (n.applyVerdict src pass v d).lm = n.lm ∧ (n.applyVerdict src pass v d).eq = n.eq
      ∧ (n.applyVerdict src pass v d).mu = n.mu ∧ (n.applyVerdict src pass v d).li = n.li
      ∧ (n.applyVerdict src pass v d).ss = n.ss := by
  unfold applyVerdict
  (repeat' split) <;> simp

@[simp] theorem judge_frame (n : Node) (src pass : Nat) (v : Int) :
    (n.judge src pass v).now = n.now ∧ (n.judge src pass v).identity = n.identity
      ∧ (n.judge src pass v).cfg = n.cfg ∧ (n.judge src pass v).cu = n.cu ∧ (n.judge src pass v).seq = n.seq
      ∧ (n.judge src pass v).rt = n.rt ∧ (n.judge src pass v).eq = n.eq ∧ (n.judge src pass v).mu = n.mu
      ∧ (n.judge src pass v).li = n.li ∧ (n.judge src pass v).ss = n.ss := by
  unfold judge
  (repeat' split) <;> simp

@[simp] theorem writeResult_frame (n : Node) (w : ResultWrite) :
    (n.writeResult w).now = n.now ∧ (n.writeResult w).identity = n.identity ∧ (n.writeResult w).cfg = n.cfg
      ∧ (n.writeResult w).cu = n.cu ∧ (n.writeResult w).seq = n.seq ∧ (n.writeResult w).eq = n.eq
      ∧ (n.writeResult w).mu = n.mu ∧ (n.writeResult w).li = n.li ∧ (n.writeResult w).ss = n.ss := by
  unfold writeResult
  simp

@[simp] theorem plausibility_frame (n : Node) (pass : Nat) :
    (n.plausibility pass).now = n.now ∧ (n.plausibility pass).identity = n.identity
      ∧ (n.plausibility pass).cfg = n.cfg ∧ (n.plausibility pass).cu = n.cu
      ∧ (n.plausibility pass).seq = n.seq ∧ (n.plausibility pass).rt = n.rt
      ∧ (n.plausibility pass).lm = n.lm ∧ (n.plausibility pass).eq = n.eq ∧ (n.plausibility pass).mu = n.mu
      ∧ (n.plausibility pass).li = n.li ∧ (n.plausibility pass).ss = n.ss := by
  unfold plausibility
  (repeat' split) <;> simp

@[simp] theorem quietRequest_frame (n : Node) (who : Client) (set : List Nat) :
    (n.quietRequest who set).now = n.now ∧ (n.quietRequest who set).identity = n.identity
      ∧ (n.quietRequest who set).cfg = n.cfg ∧ (n.quietRequest who set).cu = n.cu
      ∧ (n.quietRequest who set).seq = n.seq ∧ (n.quietRequest who set).rt = n.rt
      ∧ (n.quietRequest who set).lm = n.lm ∧ (n.quietRequest who set).ft = n.ft
      ∧ (n.quietRequest who set).mu = n.mu ∧ (n.quietRequest who set).li = n.li
      ∧ (n.quietRequest who set).ch = n.ch ∧ (n.quietRequest who set).ss = n.ss
      ∧ (n.quietRequest who set).pc = n.pc := by
  unfold quietRequest
  simp

@[simp] theorem quietRelease_frame (n : Node) (who : Client) :
    (n.quietRelease who).now = n.now ∧ (n.quietRelease who).identity = n.identity
      ∧ (n.quietRelease who).cfg = n.cfg ∧ (n.quietRelease who).cu = n.cu ∧ (n.quietRelease who).seq = n.seq
      ∧ (n.quietRelease who).rt = n.rt ∧ (n.quietRelease who).lm = n.lm ∧ (n.quietRelease who).ft = n.ft
      ∧ (n.quietRelease who).mu = n.mu ∧ (n.quietRelease who).li = n.li ∧ (n.quietRelease who).ch = n.ch
      ∧ (n.quietRelease who).ss = n.ss ∧ (n.quietRelease who).pc = n.pc := by
  unfold quietRelease
  simp

@[simp] theorem startConversion_frame (n : Node) (r : ConvRequest) :
    (n.startConversion r).now = n.now ∧ (n.startConversion r).identity = n.identity
      ∧ (n.startConversion r).cfg = n.cfg ∧ (n.startConversion r).seq = n.seq
      ∧ (n.startConversion r).rt = n.rt ∧ (n.startConversion r).lm = n.lm ∧ (n.startConversion r).ft = n.ft
      ∧ (n.startConversion r).eq = n.eq ∧ (n.startConversion r).mu = n.mu ∧ (n.startConversion r).li = n.li
      ∧ (n.startConversion r).ch = n.ch ∧ (n.startConversion r).ss = n.ss ∧ (n.startConversion r).pc = n.pc := by
  unfold startConversion
  (repeat' split) <;> simp

@[simp] theorem convRequest_frame (n : Node) (c : Client) (r : ConvRequest) :
    (n.convRequest c r).now = n.now ∧ (n.convRequest c r).identity = n.identity
      ∧ (n.convRequest c r).cfg = n.cfg ∧ (n.convRequest c r).seq = n.seq ∧ (n.convRequest c r).rt = n.rt
      ∧ (n.convRequest c r).lm = n.lm ∧ (n.convRequest c r).ft = n.ft ∧ (n.convRequest c r).eq = n.eq
      ∧ (n.convRequest c r).mu = n.mu ∧ (n.convRequest c r).li = n.li ∧ (n.convRequest c r).ch = n.ch
      ∧ (n.convRequest c r).ss = n.ss ∧ (n.convRequest c r).pc = n.pc := by
  unfold convRequest
  (repeat' split) <;> simp

@[simp] theorem orderInjection_frame (n : Node) (c : Client) (i : Injection) :
    (n.orderInjection c i).now = n.now ∧ (n.orderInjection c i).identity = n.identity
      ∧ (n.orderInjection c i).cfg = n.cfg ∧ (n.orderInjection c i).seq = n.seq
      ∧ (n.orderInjection c i).rt = n.rt ∧ (n.orderInjection c i).lm = n.lm
      ∧ (n.orderInjection c i).ft = n.ft ∧ (n.orderInjection c i).eq = n.eq
      ∧ (n.orderInjection c i).mu = n.mu ∧ (n.orderInjection c i).li = n.li
      ∧ (n.orderInjection c i).ch = n.ch ∧ (n.orderInjection c i).ss = n.ss
      ∧ (n.orderInjection c i).pc = n.pc := by
  unfold orderInjection
  (repeat' split) <;> simp

@[simp] theorem powerUp_frame (n : Node) :
    n.powerUp.now = n.now ∧ n.powerUp.identity = n.identity ∧ n.powerUp.cfg = n.cfg ∧ n.powerUp.seq = n.seq
      ∧ n.powerUp.rt = n.rt ∧ n.powerUp.lm = n.lm ∧ n.powerUp.ft = n.ft ∧ n.powerUp.eq = n.eq
      ∧ n.powerUp.mu = n.mu ∧ n.powerUp.li = n.li ∧ n.powerUp.ch = n.ch ∧ n.powerUp.ss = n.ss
      ∧ n.powerUp.pc = n.pc := by
  unfold powerUp
  (repeat' split) <;> simp

@[simp] theorem powerDown_frame (n : Node) :
    n.powerDown.now = n.now ∧ n.powerDown.identity = n.identity ∧ n.powerDown.cfg = n.cfg
      ∧ n.powerDown.seq = n.seq ∧ n.powerDown.rt = n.rt ∧ n.powerDown.lm = n.lm ∧ n.powerDown.ft = n.ft
      ∧ n.powerDown.eq = n.eq ∧ n.powerDown.mu = n.mu ∧ n.powerDown.li = n.li ∧ n.powerDown.ch = n.ch
      ∧ n.powerDown.ss = n.ss ∧ n.powerDown.pc = n.pc := by
  unfold powerDown
  simp

@[simp] theorem startPending_frame (n : Node) :
    n.startPending.now = n.now ∧ n.startPending.identity = n.identity ∧ n.startPending.cfg = n.cfg
      ∧ n.startPending.seq = n.seq ∧ n.startPending.rt = n.rt ∧ n.startPending.lm = n.lm
      ∧ n.startPending.ft = n.ft ∧ n.startPending.eq = n.eq ∧ n.startPending.mu = n.mu
      ∧ n.startPending.li = n.li ∧ n.startPending.ch = n.ch ∧ n.startPending.ss = n.ss
      ∧ n.startPending.pc = n.pc := by
  unfold startPending
  (repeat' split) <;> simp

@[simp] theorem silenceRestart_frame (n : Node) :
    n.silenceRestart.now = n.now ∧ n.silenceRestart.identity = n.identity ∧ n.silenceRestart.cfg = n.cfg
      ∧ n.silenceRestart.cu = n.cu ∧ n.silenceRestart.seq = n.seq ∧ n.silenceRestart.rt = n.rt
      ∧ n.silenceRestart.lm = n.lm ∧ n.silenceRestart.eq = n.eq ∧ n.silenceRestart.mu = n.mu
      ∧ n.silenceRestart.ch = n.ch ∧ n.silenceRestart.ss = n.ss ∧ n.silenceRestart.pc = n.pc := by
  unfold silenceRestart
  simp

@[simp] theorem answer_frame (n : Node) (f : Frame) (st : Status) (data : List Byte) :
    (n.answer f st data).now = n.now ∧ (n.answer f st data).identity = n.identity
      ∧ (n.answer f st data).cfg = n.cfg ∧ (n.answer f st data).cu = n.cu ∧ (n.answer f st data).seq = n.seq
      ∧ (n.answer f st data).rt = n.rt ∧ (n.answer f st data).lm = n.lm ∧ (n.answer f st data).ft = n.ft
      ∧ (n.answer f st data).eq = n.eq ∧ (n.answer f st data).mu = n.mu ∧ (n.answer f st data).li = n.li
      ∧ (n.answer f st data).ss = n.ss ∧ (n.answer f st data).pc = n.pc := by
  unfold answer
  (repeat' split) <;> simp

@[simp] theorem completionReply_frame (n : Node) (owner : ReplyOwner) (f : Frame) :
    (n.completionReply owner f).now = n.now ∧ (n.completionReply owner f).identity = n.identity
      ∧ (n.completionReply owner f).cfg = n.cfg ∧ (n.completionReply owner f).cu = n.cu
      ∧ (n.completionReply owner f).seq = n.seq ∧ (n.completionReply owner f).rt = n.rt
      ∧ (n.completionReply owner f).lm = n.lm ∧ (n.completionReply owner f).ft = n.ft
      ∧ (n.completionReply owner f).eq = n.eq ∧ (n.completionReply owner f).mu = n.mu
      ∧ (n.completionReply owner f).li = n.li ∧ (n.completionReply owner f).ss = n.ss
      ∧ (n.completionReply owner f).pc = n.pc := by
  unfold completionReply
  (repeat' split) <;> simp

@[simp] theorem seqConvert_frame (n : Node) (s : Step) :
    (n.seqConvert s).now = n.now ∧ (n.seqConvert s).identity = n.identity ∧ (n.seqConvert s).cfg = n.cfg
      ∧ (n.seqConvert s).rt = n.rt ∧ (n.seqConvert s).lm = n.lm ∧ (n.seqConvert s).ft = n.ft
      ∧ (n.seqConvert s).eq = n.eq ∧ (n.seqConvert s).mu = n.mu ∧ (n.seqConvert s).li = n.li
      ∧ (n.seqConvert s).ch = n.ch ∧ (n.seqConvert s).ss = n.ss ∧ (n.seqConvert s).pc = n.pc := by
  unfold seqConvert
  simp

@[simp] theorem seqBeginStep_frame (n : Node) (i : Nat) :
    (n.seqBeginStep i).now = n.now ∧ (n.seqBeginStep i).identity = n.identity
      ∧ (n.seqBeginStep i).cfg = n.cfg ∧ (n.seqBeginStep i).rt = n.rt ∧ (n.seqBeginStep i).lm = n.lm
      ∧ (n.seqBeginStep i).ft = n.ft ∧ (n.seqBeginStep i).mu = n.mu ∧ (n.seqBeginStep i).li = n.li
      ∧ (n.seqBeginStep i).ch = n.ch ∧ (n.seqBeginStep i).ss = n.ss ∧ (n.seqBeginStep i).pc = n.pc := by
  unfold seqBeginStep
  dsimp only
  (repeat' split) <;> simp

@[simp] theorem withOp_frame (n : Node) (b : OpBody) :
    (n.withOp b).now = n.now ∧ (n.withOp b).identity = n.identity ∧ (n.withOp b).cfg = n.cfg
      ∧ (n.withOp b).cu = n.cu ∧ (n.withOp b).seq = n.seq ∧ (n.withOp b).rt = n.rt ∧ (n.withOp b).lm = n.lm
      ∧ (n.withOp b).ft = n.ft ∧ (n.withOp b).eq = n.eq ∧ (n.withOp b).li = n.li ∧ (n.withOp b).ch = n.ch
      ∧ (n.withOp b).ss = n.ss ∧ (n.withOp b).pc = n.pc := by
  unfold withOp
  simp

@[simp] theorem trimTrial_frame (n : Node) (t : TrimOp) :
    (n.trimTrial t).now = n.now ∧ (n.trimTrial t).identity = n.identity ∧ (n.trimTrial t).cfg = n.cfg
      ∧ (n.trimTrial t).seq = n.seq ∧ (n.trimTrial t).rt = n.rt ∧ (n.trimTrial t).lm = n.lm
      ∧ (n.trimTrial t).ft = n.ft ∧ (n.trimTrial t).eq = n.eq ∧ (n.trimTrial t).li = n.li
      ∧ (n.trimTrial t).ch = n.ch ∧ (n.trimTrial t).ss = n.ss ∧ (n.trimTrial t).pc = n.pc := by
  unfold trimTrial
  simp

@[simp] theorem trimRange_frame (n : Node) (t : TrimOp) (r : Range) :
    (n.trimRange t r).now = n.now ∧ (n.trimRange t r).identity = n.identity ∧ (n.trimRange t r).cfg = n.cfg
      ∧ (n.trimRange t r).seq = n.seq ∧ (n.trimRange t r).rt = n.rt ∧ (n.trimRange t r).lm = n.lm
      ∧ (n.trimRange t r).ft = n.ft ∧ (n.trimRange t r).eq = n.eq ∧ (n.trimRange t r).li = n.li
      ∧ (n.trimRange t r).ch = n.ch ∧ (n.trimRange t r).ss = n.ss ∧ (n.trimRange t r).pc = n.pc := by
  unfold trimRange
  simp

@[simp] theorem testSpan_frame (n : Node) (l : LineOp) (k : RoundKind) (a b : Nat) :
    (n.testSpan l k a b).now = n.now ∧ (n.testSpan l k a b).identity = n.identity
      ∧ (n.testSpan l k a b).cfg = n.cfg ∧ (n.testSpan l k a b).seq = n.seq ∧ (n.testSpan l k a b).rt = n.rt
      ∧ (n.testSpan l k a b).lm = n.lm ∧ (n.testSpan l k a b).ft = n.ft ∧ (n.testSpan l k a b).eq = n.eq
      ∧ (n.testSpan l k a b).li = n.li ∧ (n.testSpan l k a b).ch = n.ch ∧ (n.testSpan l k a b).ss = n.ss
      ∧ (n.testSpan l k a b).pc = n.pc := by
  unfold testSpan
  simp

@[simp] theorem muStart_frame (n : Node) :
    n.muStart.now = n.now ∧ n.muStart.identity = n.identity ∧ n.muStart.cfg = n.cfg ∧ n.muStart.seq = n.seq
      ∧ n.muStart.rt = n.rt ∧ n.muStart.lm = n.lm ∧ n.muStart.ft = n.ft ∧ n.muStart.eq = n.eq
      ∧ n.muStart.li = n.li ∧ n.muStart.ch = n.ch ∧ n.muStart.ss = n.ss ∧ n.muStart.pc = n.pc := by
  unfold muStart
  (repeat' split) <;> simp

@[simp] theorem muBegin_frame (n : Node) :
    n.muBegin.now = n.now ∧ n.muBegin.identity = n.identity ∧ n.muBegin.cfg = n.cfg ∧ n.muBegin.seq = n.seq
      ∧ n.muBegin.rt = n.rt ∧ n.muBegin.lm = n.lm ∧ n.muBegin.ft = n.ft ∧ n.muBegin.li = n.li
      ∧ n.muBegin.ch = n.ch ∧ n.muBegin.ss = n.ss ∧ n.muBegin.pc = n.pc := by
  unfold muBegin
  dsimp only
  (repeat' split) <;> simp

@[simp] theorem watchStep_frame (n : Node) (l : List Nat) :
    (n.watchStep l).now = n.now ∧ (n.watchStep l).identity = n.identity ∧ (n.watchStep l).cfg = n.cfg
      ∧ (n.watchStep l).seq = n.seq ∧ (n.watchStep l).rt = n.rt ∧ (n.watchStep l).lm = n.lm
      ∧ (n.watchStep l).ft = n.ft ∧ (n.watchStep l).eq = n.eq ∧ (n.watchStep l).mu = n.mu
      ∧ (n.watchStep l).li = n.li ∧ (n.watchStep l).ch = n.ch ∧ (n.watchStep l).ss = n.ss := by
  unfold watchStep
  (repeat' split) <;> simp

@[simp] theorem watchStart_frame (n : Node) :
    n.watchStart.now = n.now ∧ n.watchStart.identity = n.identity ∧ n.watchStart.cfg = n.cfg
      ∧ n.watchStart.seq = n.seq ∧ n.watchStart.rt = n.rt ∧ n.watchStart.lm = n.lm ∧ n.watchStart.ft = n.ft
      ∧ n.watchStart.eq = n.eq ∧ n.watchStart.mu = n.mu ∧ n.watchStart.li = n.li ∧ n.watchStart.ch = n.ch
      ∧ n.watchStart.ss = n.ss := by
  unfold watchStart
  (repeat' split) <;> simp

@[simp] theorem watchBegin_frame (n : Node) :
    n.watchBegin.now = n.now ∧ n.watchBegin.identity = n.identity ∧ n.watchBegin.cfg = n.cfg
      ∧ n.watchBegin.seq = n.seq ∧ n.watchBegin.rt = n.rt ∧ n.watchBegin.lm = n.lm ∧ n.watchBegin.ft = n.ft
      ∧ n.watchBegin.mu = n.mu ∧ n.watchBegin.li = n.li ∧ n.watchBegin.ch = n.ch ∧ n.watchBegin.ss = n.ss := by
  unfold watchBegin
  dsimp only
  (repeat' split) <;> simp

@[simp] theorem grantLease_frame (n : Node) (c : Client) :
    (n.grantLease c).now = n.now ∧ (n.grantLease c).identity = n.identity ∧ (n.grantLease c).cfg = n.cfg
      ∧ (n.grantLease c).rt = n.rt ∧ (n.grantLease c).lm = n.lm ∧ (n.grantLease c).ft = n.ft
      ∧ (n.grantLease c).li = n.li ∧ (n.grantLease c).ch = n.ch ∧ (n.grantLease c).ss = n.ss := by
  unfold grantLease
  (repeat' split) <;> simp

@[simp] theorem grantWaiting_frame (n : Node) :
    n.grantWaiting.now = n.now ∧ n.grantWaiting.identity = n.identity ∧ n.grantWaiting.cfg = n.cfg
      ∧ n.grantWaiting.rt = n.rt ∧ n.grantWaiting.lm = n.lm ∧ n.grantWaiting.ft = n.ft
      ∧ n.grantWaiting.li = n.li ∧ n.grantWaiting.ch = n.ch ∧ n.grantWaiting.ss = n.ss := by
  unfold grantWaiting
  (repeat' split) <;> simp

@[simp] theorem leaseRequest_frame (n : Node) (c : Client) :
    (n.leaseRequest c).now = n.now ∧ (n.leaseRequest c).identity = n.identity
      ∧ (n.leaseRequest c).cfg = n.cfg ∧ (n.leaseRequest c).rt = n.rt ∧ (n.leaseRequest c).lm = n.lm
      ∧ (n.leaseRequest c).ft = n.ft ∧ (n.leaseRequest c).li = n.li ∧ (n.leaseRequest c).ch = n.ch
      ∧ (n.leaseRequest c).ss = n.ss := by
  unfold leaseRequest
  (repeat' split) <;> simp

@[simp] theorem leaseWithdraw_frame (n : Node) (c : Client) :
    (n.leaseWithdraw c).now = n.now ∧ (n.leaseWithdraw c).identity = n.identity
      ∧ (n.leaseWithdraw c).cfg = n.cfg ∧ (n.leaseWithdraw c).seq = n.seq ∧ (n.leaseWithdraw c).rt = n.rt
      ∧ (n.leaseWithdraw c).lm = n.lm ∧ (n.leaseWithdraw c).ft = n.ft ∧ (n.leaseWithdraw c).eq = n.eq
      ∧ (n.leaseWithdraw c).mu = n.mu ∧ (n.leaseWithdraw c).li = n.li ∧ (n.leaseWithdraw c).ch = n.ch
      ∧ (n.leaseWithdraw c).ss = n.ss ∧ (n.leaseWithdraw c).pc = n.pc := by
  unfold leaseWithdraw
  simp

@[simp] theorem dropLease_frame (n : Node) :
    n.dropLease.now = n.now ∧ n.dropLease.identity = n.identity ∧ n.dropLease.cfg = n.cfg
      ∧ n.dropLease.seq = n.seq ∧ n.dropLease.rt = n.rt ∧ n.dropLease.lm = n.lm ∧ n.dropLease.ft = n.ft
      ∧ n.dropLease.eq = n.eq ∧ n.dropLease.mu = n.mu ∧ n.dropLease.li = n.li ∧ n.dropLease.ch = n.ch
      ∧ n.dropLease.ss = n.ss ∧ n.dropLease.pc = n.pc := by
  unfold dropLease
  (repeat' split) <;> simp

@[simp] theorem leaseRelease_frame (n : Node) (c : Client) :
    (n.leaseRelease c).now = n.now ∧ (n.leaseRelease c).identity = n.identity
      ∧ (n.leaseRelease c).cfg = n.cfg ∧ (n.leaseRelease c).rt = n.rt ∧ (n.leaseRelease c).lm = n.lm
      ∧ (n.leaseRelease c).ft = n.ft ∧ (n.leaseRelease c).li = n.li ∧ (n.leaseRelease c).ch = n.ch
      ∧ (n.leaseRelease c).ss = n.ss := by
  unfold leaseRelease
  (repeat' split) <;> simp

@[simp] theorem activate_frame (n : Node) :
    n.activate.now = n.now ∧ n.activate.identity = n.identity ∧ n.activate.cfg = n.cfg
      ∧ n.activate.cu = n.cu ∧ n.activate.lm = n.lm ∧ n.activate.ft = n.ft ∧ n.activate.eq = n.eq
      ∧ n.activate.mu = n.mu ∧ n.activate.li = n.li ∧ n.activate.ch = n.ch ∧ n.activate.ss = n.ss
      ∧ n.activate.pc = n.pc := by
  unfold activate
  (repeat' split) <;> simp

@[simp] theorem advancePass_frame (n : Node) :
    n.advancePass.now = n.now ∧ n.advancePass.identity = n.identity ∧ n.advancePass.cfg = n.cfg
      ∧ n.advancePass.cu = n.cu ∧ n.advancePass.rt = n.rt ∧ n.advancePass.lm = n.lm
      ∧ n.advancePass.ft = n.ft ∧ n.advancePass.eq = n.eq ∧ n.advancePass.mu = n.mu
      ∧ n.advancePass.li = n.li ∧ n.advancePass.ch = n.ch ∧ n.advancePass.ss = n.ss
      ∧ n.advancePass.pc = n.pc := by
  unfold advancePass
  (repeat' split) <;> simp

@[simp] theorem passStart_frame (n : Node) (b : Bool) :
    (n.passStart b).now = n.now ∧ (n.passStart b).identity = n.identity ∧ (n.passStart b).cfg = n.cfg
      ∧ (n.passStart b).ft = n.ft ∧ (n.passStart b).li = n.li ∧ (n.passStart b).ch = n.ch
      ∧ (n.passStart b).ss = n.ss := by
  unfold passStart
  (repeat' split) <;> simp

@[simp] theorem countLate_frame (n : Node) :
    n.countLate.now = n.now ∧ n.countLate.identity = n.identity ∧ n.countLate.cfg = n.cfg
      ∧ n.countLate.cu = n.cu ∧ n.countLate.rt = n.rt ∧ n.countLate.lm = n.lm ∧ n.countLate.ft = n.ft
      ∧ n.countLate.eq = n.eq ∧ n.countLate.mu = n.mu ∧ n.countLate.li = n.li ∧ n.countLate.ch = n.ch
      ∧ n.countLate.ss = n.ss ∧ n.countLate.pc = n.pc := by
  unfold countLate
  simp

@[simp] theorem afterPass_frame (n : Node) :
    n.afterPass.now = n.now ∧ n.afterPass.identity = n.identity ∧ n.afterPass.cfg = n.cfg
      ∧ n.afterPass.ft = n.ft ∧ n.afterPass.li = n.li ∧ n.afterPass.ch = n.ch ∧ n.afterPass.ss = n.ss := by
  unfold afterPass
  (repeat' split) <;> simp

@[simp] theorem passEnd_frame (n : Node) :
    n.passEnd.now = n.now ∧ n.passEnd.identity = n.identity ∧ n.passEnd.cfg = n.cfg ∧ n.passEnd.li = n.li
      ∧ n.passEnd.ss = n.ss := by
  unfold passEnd
  simp

@[simp] theorem startDeferred_frame (n : Node) :
    n.startDeferred.now = n.now ∧ n.startDeferred.identity = n.identity ∧ n.startDeferred.cfg = n.cfg
      ∧ n.startDeferred.ft = n.ft ∧ n.startDeferred.li = n.li ∧ n.startDeferred.ch = n.ch
      ∧ n.startDeferred.ss = n.ss := by
  unfold startDeferred
  dsimp only
  (repeat' split) <;> simp

@[simp] theorem seqStepEnd_frame (n : Node) (i : Nat) (s : Step) (a : Accum) :
    (n.seqStepEnd i s a).now = n.now ∧ (n.seqStepEnd i s a).identity = n.identity
      ∧ (n.seqStepEnd i s a).cfg = n.cfg ∧ (n.seqStepEnd i s a).li = n.li ∧ (n.seqStepEnd i s a).ss = n.ss := by
  unfold seqStepEnd
  dsimp only
  (repeat' split) <;> simp

@[simp] theorem seqSample_frame (n : Node) (v : Int) :
    (n.seqSample v).now = n.now ∧ (n.seqSample v).identity = n.identity ∧ (n.seqSample v).cfg = n.cfg
      ∧ (n.seqSample v).li = n.li ∧ (n.seqSample v).ss = n.ss := by
  unfold seqSample
  dsimp only
  (repeat' split) <;> simp

@[simp] theorem seqStop_frame (n : Node) :
    n.seqStop.now = n.now ∧ n.seqStop.identity = n.identity ∧ n.seqStop.cfg = n.cfg ∧ n.seqStop.rt = n.rt
      ∧ n.seqStop.lm = n.lm ∧ n.seqStop.ft = n.ft ∧ n.seqStop.li = n.li ∧ n.seqStop.ch = n.ch
      ∧ n.seqStop.ss = n.ss := by
  unfold seqStop
  (repeat' split) <;> simp

@[simp] theorem endOperation_frame (n : Node) (k : Byte) (st : Status) (data : List Byte) :
    (n.endOperation k st data).now = n.now ∧ (n.endOperation k st data).identity = n.identity
      ∧ (n.endOperation k st data).cfg = n.cfg ∧ (n.endOperation k st data).ft = n.ft
      ∧ (n.endOperation k st data).li = n.li ∧ (n.endOperation k st data).ss = n.ss := by
  unfold endOperation
  (repeat' split) <;> simp

@[simp] theorem railOutcome_frame (n : Node) (r : Range) (u : BitVec 6) :
    (n.railOutcome r u).now = n.now ∧ (n.railOutcome r u).identity = n.identity
      ∧ (n.railOutcome r u).cfg = n.cfg ∧ (n.railOutcome r u).cu = n.cu ∧ (n.railOutcome r u).seq = n.seq
      ∧ (n.railOutcome r u).rt = n.rt ∧ (n.railOutcome r u).lm = n.lm ∧ (n.railOutcome r u).eq = n.eq
      ∧ (n.railOutcome r u).mu = n.mu ∧ (n.railOutcome r u).li = n.li ∧ (n.railOutcome r u).ss = n.ss := by
  unfold railOutcome
  (repeat' split) <;> simp

@[simp] theorem trimCommit_frame (n : Node) (t : TrimOp) :
    (n.trimCommit t).now = n.now ∧ (n.trimCommit t).identity = n.identity ∧ (n.trimCommit t).cfg = n.cfg
      ∧ (n.trimCommit t).li = n.li ∧ (n.trimCommit t).ss = n.ss := by
  unfold trimCommit
  dsimp only
  (repeat' split) <;> simp

@[simp] theorem trimReading_frame (n : Node) (t : TrimOp) (v : Int) :
    (n.trimReading t v).now = n.now ∧ (n.trimReading t v).identity = n.identity
      ∧ (n.trimReading t v).cfg = n.cfg ∧ (n.trimReading t v).li = n.li ∧ (n.trimReading t v).ss = n.ss := by
  unfold trimReading
  dsimp only
  (repeat' split) <;> simp

@[simp] theorem clearLines_frame (n : Node) (keep : Option Nat) :
    (n.clearLines keep).now = n.now ∧ (n.clearLines keep).identity = n.identity
      ∧ (n.clearLines keep).cfg = n.cfg ∧ (n.clearLines keep).cu = n.cu ∧ (n.clearLines keep).seq = n.seq
      ∧ (n.clearLines keep).rt = n.rt ∧ (n.clearLines keep).lm = n.lm ∧ (n.clearLines keep).eq = n.eq
      ∧ (n.clearLines keep).mu = n.mu ∧ (n.clearLines keep).li = n.li ∧ (n.clearLines keep).ch = n.ch
      ∧ (n.clearLines keep).ss = n.ss ∧ (n.clearLines keep).pc = n.pc := by
  unfold clearLines
  simp

@[simp] theorem lineEnd_frame (n : Node) (l : LineOp) (k : Nat) :
    (n.lineEnd l k).now = n.now ∧ (n.lineEnd l k).identity = n.identity ∧ (n.lineEnd l k).cfg = n.cfg
      ∧ (n.lineEnd l k).li = n.li ∧ (n.lineEnd l k).ss = n.ss := by
  unfold lineEnd
  (repeat' split) <;> simp

@[simp] theorem lineSearch_frame (n : Node) (l : LineOp) :
    (n.lineSearch l).now = n.now ∧ (n.lineSearch l).identity = n.identity ∧ (n.lineSearch l).cfg = n.cfg
      ∧ (n.lineSearch l).seq = n.seq ∧ (n.lineSearch l).rt = n.rt ∧ (n.lineSearch l).lm = n.lm
      ∧ (n.lineSearch l).ft = n.ft ∧ (n.lineSearch l).eq = n.eq ∧ (n.lineSearch l).li = n.li
      ∧ (n.lineSearch l).ch = n.ch ∧ (n.lineSearch l).ss = n.ss ∧ (n.lineSearch l).pc = n.pc := by
  unfold lineSearch
  (repeat' split) <;> simp

@[simp] theorem lineJudge_frame (n : Node) (l : LineOp) (a b : Int) :
    (n.lineJudge l a b).now = n.now ∧ (n.lineJudge l a b).identity = n.identity
      ∧ (n.lineJudge l a b).cfg = n.cfg ∧ (n.lineJudge l a b).li = n.li ∧ (n.lineJudge l a b).ss = n.ss := by
  unfold lineJudge
  dsimp only
  (repeat' split) <;> simp

@[simp] theorem muReading_frame (n : Node) (v : Int) :
    (n.muReading v).now = n.now ∧ (n.muReading v).identity = n.identity ∧ (n.muReading v).cfg = n.cfg
      ∧ (n.muReading v).li = n.li ∧ (n.muReading v).ss = n.ss := by
  unfold muReading
  (repeat' split) <;> simp

@[simp] theorem endSlot_frame (n : Node) :
    n.endSlot.now = n.now ∧ n.endSlot.identity = n.identity ∧ n.endSlot.cfg = n.cfg ∧ n.endSlot.cu = n.cu
      ∧ n.endSlot.seq = n.seq ∧ n.endSlot.rt = n.rt ∧ n.endSlot.lm = n.lm ∧ n.endSlot.ft = n.ft
      ∧ n.endSlot.mu = n.mu ∧ n.endSlot.li = n.li ∧ n.endSlot.ss = n.ss ∧ n.endSlot.pc = n.pc := by
  unfold endSlot
  dsimp only
  (repeat' split) <;> simp

@[simp] theorem takeFrameLength_frame (n : Node) :
    n.takeFrameLength.now = n.now ∧ n.takeFrameLength.identity = n.identity ∧ n.takeFrameLength.cfg = n.cfg
      ∧ n.takeFrameLength.cu = n.cu ∧ n.takeFrameLength.seq = n.seq ∧ n.takeFrameLength.rt = n.rt
      ∧ n.takeFrameLength.lm = n.lm ∧ n.takeFrameLength.ft = n.ft ∧ n.takeFrameLength.mu = n.mu
      ∧ n.takeFrameLength.li = n.li ∧ n.takeFrameLength.ch = n.ch ∧ n.takeFrameLength.ss = n.ss
      ∧ n.takeFrameLength.pc = n.pc := by
  unfold takeFrameLength
  simp

@[simp] theorem closeSwitches_frame (n : Node) :
    n.closeSwitches.now = n.now ∧ n.closeSwitches.identity = n.identity ∧ n.closeSwitches.cfg = n.cfg
      ∧ n.closeSwitches.cu = n.cu ∧ n.closeSwitches.seq = n.seq ∧ n.closeSwitches.rt = n.rt
      ∧ n.closeSwitches.lm = n.lm ∧ n.closeSwitches.ft = n.ft ∧ n.closeSwitches.mu = n.mu
      ∧ n.closeSwitches.li = n.li ∧ n.closeSwitches.ch = n.ch ∧ n.closeSwitches.ss = n.ss
      ∧ n.closeSwitches.pc = n.pc := by
  unfold closeSwitches
  simp

@[simp] theorem beginSlot_frame (n : Node) (k t : Nat) :
    (n.beginSlot k t).now = n.now ∧ (n.beginSlot k t).identity = n.identity ∧ (n.beginSlot k t).cfg = n.cfg
      ∧ (n.beginSlot k t).cu = n.cu ∧ (n.beginSlot k t).seq = n.seq ∧ (n.beginSlot k t).rt = n.rt
      ∧ (n.beginSlot k t).lm = n.lm ∧ (n.beginSlot k t).ft = n.ft ∧ (n.beginSlot k t).mu = n.mu
      ∧ (n.beginSlot k t).li = n.li ∧ (n.beginSlot k t).ch = n.ch ∧ (n.beginSlot k t).ss = n.ss
      ∧ (n.beginSlot k t).pc = n.pc := by
  unfold beginSlot
  simp

@[simp] theorem restartFrame_frame (n : Node) (st : Equalizer → EqState) :
    (n.restartFrame st).now = n.now ∧ (n.restartFrame st).identity = n.identity
      ∧ (n.restartFrame st).cfg = n.cfg ∧ (n.restartFrame st).cu = n.cu ∧ (n.restartFrame st).seq = n.seq
      ∧ (n.restartFrame st).rt = n.rt ∧ (n.restartFrame st).lm = n.lm ∧ (n.restartFrame st).ft = n.ft
      ∧ (n.restartFrame st).mu = n.mu ∧ (n.restartFrame st).li = n.li ∧ (n.restartFrame st).ch = n.ch
      ∧ (n.restartFrame st).ss = n.ss ∧ (n.restartFrame st).pc = n.pc := by
  unfold restartFrame
  simp

@[simp] theorem slotBoundary_frame (n : Node) (t : Nat) :
    (n.slotBoundary t).now = n.now ∧ (n.slotBoundary t).identity = n.identity
      ∧ (n.slotBoundary t).cfg = n.cfg ∧ (n.slotBoundary t).cu = n.cu ∧ (n.slotBoundary t).seq = n.seq
      ∧ (n.slotBoundary t).rt = n.rt ∧ (n.slotBoundary t).lm = n.lm ∧ (n.slotBoundary t).ft = n.ft
      ∧ (n.slotBoundary t).mu = n.mu ∧ (n.slotBoundary t).li = n.li ∧ (n.slotBoundary t).ss = n.ss
      ∧ (n.slotBoundary t).pc = n.pc := by
  unfold slotBoundary
  dsimp only
  (repeat' split) <;> simp

@[simp] theorem safeStop_frame (n : Node) :
    n.safeStop.now = n.now ∧ n.safeStop.identity = n.identity ∧ n.safeStop.cfg = n.cfg
      ∧ n.safeStop.cu = n.cu ∧ n.safeStop.seq = n.seq ∧ n.safeStop.rt = n.rt ∧ n.safeStop.lm = n.lm
      ∧ n.safeStop.ft = n.ft ∧ n.safeStop.mu = n.mu ∧ n.safeStop.li = n.li ∧ n.safeStop.ch = n.ch
      ∧ n.safeStop.ss = n.ss ∧ n.safeStop.pc = n.pc := by
  unfold safeStop
  (repeat' split) <;> simp

@[simp] theorem eqDisable_frame (n : Node) :
    n.eqDisable.now = n.now ∧ n.eqDisable.identity = n.identity ∧ n.eqDisable.cfg = n.cfg
      ∧ n.eqDisable.cu = n.cu ∧ n.eqDisable.seq = n.seq ∧ n.eqDisable.rt = n.rt ∧ n.eqDisable.lm = n.lm
      ∧ n.eqDisable.ft = n.ft ∧ n.eqDisable.mu = n.mu ∧ n.eqDisable.li = n.li ∧ n.eqDisable.ch = n.ch
      ∧ n.eqDisable.ss = n.ss ∧ n.eqDisable.pc = n.pc := by
  unfold eqDisable
  simp

@[simp] theorem eqWake_frame (n : Node) (w : Bool) :
    (n.eqWake w).now = n.now ∧ (n.eqWake w).identity = n.identity ∧ (n.eqWake w).cfg = n.cfg
      ∧ (n.eqWake w).cu = n.cu ∧ (n.eqWake w).seq = n.seq ∧ (n.eqWake w).rt = n.rt ∧ (n.eqWake w).lm = n.lm
      ∧ (n.eqWake w).ft = n.ft ∧ (n.eqWake w).mu = n.mu ∧ (n.eqWake w).li = n.li ∧ (n.eqWake w).ch = n.ch
      ∧ (n.eqWake w).ss = n.ss ∧ (n.eqWake w).pc = n.pc := by
  unfold eqWake
  (repeat' split) <;> simp

@[simp] theorem frameWake_frame (n : Node) :
    n.frameWake.now = n.now ∧ n.frameWake.identity = n.identity ∧ n.frameWake.cfg = n.cfg
      ∧ n.frameWake.seq = n.seq ∧ n.frameWake.rt = n.rt ∧ n.frameWake.lm = n.lm ∧ n.frameWake.mu = n.mu
      ∧ n.frameWake.ch = n.ch ∧ n.frameWake.ss = n.ss := by
  unfold frameWake
  simp

@[simp] theorem startWatchTimer_frame (n : Node) :
    n.startWatchTimer.now = n.now ∧ n.startWatchTimer.identity = n.identity ∧ n.startWatchTimer.cfg = n.cfg
      ∧ n.startWatchTimer.cu = n.cu ∧ n.startWatchTimer.seq = n.seq ∧ n.startWatchTimer.rt = n.rt
      ∧ n.startWatchTimer.lm = n.lm ∧ n.startWatchTimer.ft = n.ft ∧ n.startWatchTimer.eq = n.eq
      ∧ n.startWatchTimer.mu = n.mu ∧ n.startWatchTimer.li = n.li ∧ n.startWatchTimer.ch = n.ch
      ∧ n.startWatchTimer.ss = n.ss := by
  unfold startWatchTimer
  (repeat' split) <;> simp

@[simp] theorem enterStandby_frame (n : Node) :
    n.enterStandby.now = n.now ∧ n.enterStandby.identity = n.identity ∧ n.enterStandby.cfg = n.cfg
      ∧ n.enterStandby.rt = n.rt ∧ n.enterStandby.lm = n.lm ∧ n.enterStandby.ch = n.ch
      ∧ n.enterStandby.ss = n.ss := by
  unfold enterStandby
  dsimp only
  (repeat' split) <;> simp

@[simp] theorem watchPassStart_frame (n : Node) :
    n.watchPassStart.now = n.now ∧ n.watchPassStart.identity = n.identity ∧ n.watchPassStart.cfg = n.cfg
      ∧ n.watchPassStart.rt = n.rt ∧ n.watchPassStart.ft = n.ft ∧ n.watchPassStart.li = n.li
      ∧ n.watchPassStart.ch = n.ch ∧ n.watchPassStart.ss = n.ss := by
  unfold watchPassStart
  simp

@[simp] theorem watchDecide_frame (n : Node) :
    n.watchDecide.now = n.now ∧ n.watchDecide.identity = n.identity ∧ n.watchDecide.cfg = n.cfg
      ∧ n.watchDecide.seq = n.seq ∧ n.watchDecide.rt = n.rt ∧ n.watchDecide.lm = n.lm
      ∧ n.watchDecide.mu = n.mu ∧ n.watchDecide.ss = n.ss := by
  unfold watchDecide
  (repeat' split) <;> simp

@[simp] theorem watchPassEnd_frame (n : Node) (pass : Nat) :
    (n.watchPassEnd pass).now = n.now ∧ (n.watchPassEnd pass).identity = n.identity
      ∧ (n.watchPassEnd pass).cfg = n.cfg ∧ (n.watchPassEnd pass).rt = n.rt
      ∧ (n.watchPassEnd pass).lm = n.lm ∧ (n.watchPassEnd pass).ss = n.ss := by
  unfold watchPassEnd
  simp

@[simp] theorem watchWrite_frame (n : Node) (w : WatchPass) (src : Nat) (v : Int) :
    (n.watchWrite w src v).now = n.now ∧ (n.watchWrite w src v).identity = n.identity
      ∧ (n.watchWrite w src v).cfg = n.cfg ∧ (n.watchWrite w src v).cu = n.cu
      ∧ (n.watchWrite w src v).seq = n.seq ∧ (n.watchWrite w src v).eq = n.eq
      ∧ (n.watchWrite w src v).mu = n.mu ∧ (n.watchWrite w src v).li = n.li
      ∧ (n.watchWrite w src v).ss = n.ss := by
  unfold watchWrite
  simp

@[simp] theorem watchSample_frame (n : Node) (v : Int) :
    (n.watchSample v).now = n.now ∧ (n.watchSample v).identity = n.identity ∧ (n.watchSample v).cfg = n.cfg
      ∧ (n.watchSample v).ss = n.ss := by
  unfold watchSample
  (repeat' split) <;> simp

@[simp] theorem deliver_frame (n : Node) (v : Int) :
    (n.deliver v).now = n.now ∧ (n.deliver v).identity = n.identity ∧ (n.deliver v).cfg = n.cfg
      ∧ (n.deliver v).ss = n.ss := by
  unfold deliver
  (repeat' split) <;> simp

@[simp] theorem conversionEnds_frame (n : Node) :
    n.conversionEnds.now = n.now ∧ n.conversionEnds.identity = n.identity ∧ n.conversionEnds.cfg = n.cfg
      ∧ n.conversionEnds.seq = n.seq ∧ n.conversionEnds.rt = n.rt ∧ n.conversionEnds.lm = n.lm
      ∧ n.conversionEnds.ft = n.ft ∧ n.conversionEnds.eq = n.eq ∧ n.conversionEnds.mu = n.mu
      ∧ n.conversionEnds.li = n.li ∧ n.conversionEnds.ch = n.ch ∧ n.conversionEnds.ss = n.ss
      ∧ n.conversionEnds.pc = n.pc := by
  unfold conversionEnds
  simp

@[simp] theorem enterIdle_frame (n : Node) :
    n.enterIdle.now = n.now ∧ n.enterIdle.identity = n.identity ∧ n.enterIdle.cfg = n.cfg
      ∧ n.enterIdle.rt = n.rt ∧ n.enterIdle.lm = n.lm ∧ n.enterIdle.ft = n.ft ∧ n.enterIdle.li = n.li
      ∧ n.enterIdle.ch = n.ch ∧ n.enterIdle.ss = n.ss := by
  unfold enterIdle
  simp

@[simp] theorem modifyLane_frame (n : Node) (k : Lane) (f : LaneState → LaneState) :
    (n.modifyLane k f).now = n.now ∧ (n.modifyLane k f).identity = n.identity
      ∧ (n.modifyLane k f).cfg = n.cfg ∧ (n.modifyLane k f).cu = n.cu ∧ (n.modifyLane k f).seq = n.seq
      ∧ (n.modifyLane k f).rt = n.rt ∧ (n.modifyLane k f).lm = n.lm ∧ (n.modifyLane k f).ft = n.ft
      ∧ (n.modifyLane k f).eq = n.eq ∧ (n.modifyLane k f).mu = n.mu ∧ (n.modifyLane k f).ch = n.ch
      ∧ (n.modifyLane k f).ss = n.ss ∧ (n.modifyLane k f).pc = n.pc := by
  unfold modifyLane
  simp

@[simp] theorem noteSymbol_frame (n : Node) (k : Lane) (y : LineSymbol) :
    (n.noteSymbol k y).now = n.now ∧ (n.noteSymbol k y).identity = n.identity
      ∧ (n.noteSymbol k y).cfg = n.cfg ∧ (n.noteSymbol k y).cu = n.cu ∧ (n.noteSymbol k y).seq = n.seq
      ∧ (n.noteSymbol k y).rt = n.rt ∧ (n.noteSymbol k y).lm = n.lm ∧ (n.noteSymbol k y).ft = n.ft
      ∧ (n.noteSymbol k y).eq = n.eq ∧ (n.noteSymbol k y).mu = n.mu ∧ (n.noteSymbol k y).ch = n.ch
      ∧ (n.noteSymbol k y).ss = n.ss ∧ (n.noteSymbol k y).pc = n.pc := by
  unfold noteSymbol
  (repeat' split) <;> simp

@[simp] theorem setReceiver_frame (n : Node) (k : Lane) (x : Receiver) :
    (n.setReceiver k x).now = n.now ∧ (n.setReceiver k x).identity = n.identity
      ∧ (n.setReceiver k x).cfg = n.cfg ∧ (n.setReceiver k x).cu = n.cu ∧ (n.setReceiver k x).seq = n.seq
      ∧ (n.setReceiver k x).rt = n.rt ∧ (n.setReceiver k x).lm = n.lm ∧ (n.setReceiver k x).ft = n.ft
      ∧ (n.setReceiver k x).eq = n.eq ∧ (n.setReceiver k x).mu = n.mu ∧ (n.setReceiver k x).ch = n.ch
      ∧ (n.setReceiver k x).ss = n.ss ∧ (n.setReceiver k x).pc = n.pc := by
  unfold setReceiver
  simp

@[simp] theorem enqueueCommand_frame (n : Node) (f : Frame) :
    (n.enqueueCommand f).now = n.now ∧ (n.enqueueCommand f).identity = n.identity
      ∧ (n.enqueueCommand f).cfg = n.cfg ∧ (n.enqueueCommand f).seq = n.seq ∧ (n.enqueueCommand f).rt = n.rt
      ∧ (n.enqueueCommand f).lm = n.lm ∧ (n.enqueueCommand f).mu = n.mu ∧ (n.enqueueCommand f).ss = n.ss := by
  unfold enqueueCommand
  dsimp only
  (repeat' split) <;> simp

@[simp] theorem enqueueNorth_frame (n : Node) (f : Frame) :
    (n.enqueueNorth f).now = n.now ∧ (n.enqueueNorth f).identity = n.identity
      ∧ (n.enqueueNorth f).cfg = n.cfg ∧ (n.enqueueNorth f).cu = n.cu ∧ (n.enqueueNorth f).seq = n.seq
      ∧ (n.enqueueNorth f).rt = n.rt ∧ (n.enqueueNorth f).lm = n.lm ∧ (n.enqueueNorth f).ft = n.ft
      ∧ (n.enqueueNorth f).eq = n.eq ∧ (n.enqueueNorth f).mu = n.mu ∧ (n.enqueueNorth f).ch = n.ch
      ∧ (n.enqueueNorth f).ss = n.ss ∧ (n.enqueueNorth f).pc = n.pc := by
  unfold enqueueNorth
  (repeat' split) <;> simp

@[simp] theorem enqueueSouth_frame (n : Node) (f : Frame) :
    (n.enqueueSouth f).now = n.now ∧ (n.enqueueSouth f).identity = n.identity
      ∧ (n.enqueueSouth f).cfg = n.cfg ∧ (n.enqueueSouth f).cu = n.cu ∧ (n.enqueueSouth f).seq = n.seq
      ∧ (n.enqueueSouth f).rt = n.rt ∧ (n.enqueueSouth f).lm = n.lm ∧ (n.enqueueSouth f).ft = n.ft
      ∧ (n.enqueueSouth f).eq = n.eq ∧ (n.enqueueSouth f).mu = n.mu ∧ (n.enqueueSouth f).ch = n.ch
      ∧ (n.enqueueSouth f).ss = n.ss ∧ (n.enqueueSouth f).pc = n.pc := by
  unfold enqueueSouth
  (repeat' split) <;> simp

@[simp] theorem countMisaddressed_frame (n : Node) :
    n.countMisaddressed.now = n.now ∧ n.countMisaddressed.identity = n.identity
      ∧ n.countMisaddressed.cfg = n.cfg ∧ n.countMisaddressed.cu = n.cu ∧ n.countMisaddressed.seq = n.seq
      ∧ n.countMisaddressed.rt = n.rt ∧ n.countMisaddressed.lm = n.lm ∧ n.countMisaddressed.ft = n.ft
      ∧ n.countMisaddressed.eq = n.eq ∧ n.countMisaddressed.mu = n.mu ∧ n.countMisaddressed.ch = n.ch
      ∧ n.countMisaddressed.ss = n.ss ∧ n.countMisaddressed.pc = n.pc := by
  unfold countMisaddressed
  simp

@[simp] theorem northbound_frame (n : Node) (f : Frame) :
    (n.northbound f).now = n.now ∧ (n.northbound f).identity = n.identity ∧ (n.northbound f).cfg = n.cfg
      ∧ (n.northbound f).seq = n.seq ∧ (n.northbound f).rt = n.rt ∧ (n.northbound f).lm = n.lm
      ∧ (n.northbound f).mu = n.mu ∧ (n.northbound f).ss = n.ss := by
  unfold northbound
  dsimp only
  (repeat' split) <;> simp

@[simp] theorem southbound_frame (n : Node) (f : Frame) :
    (n.southbound f).now = n.now ∧ (n.southbound f).identity = n.identity ∧ (n.southbound f).cfg = n.cfg
      ∧ (n.southbound f).cu = n.cu ∧ (n.southbound f).seq = n.seq ∧ (n.southbound f).rt = n.rt
      ∧ (n.southbound f).lm = n.lm ∧ (n.southbound f).ft = n.ft ∧ (n.southbound f).eq = n.eq
      ∧ (n.southbound f).mu = n.mu ∧ (n.southbound f).ch = n.ch ∧ (n.southbound f).ss = n.ss
      ∧ (n.southbound f).pc = n.pc := by
  unfold southbound
  (repeat' split) <;> simp

@[simp] theorem northSent_frame (n : Node) :
    n.northSent.now = n.now ∧ n.northSent.identity = n.identity ∧ n.northSent.cfg = n.cfg
      ∧ n.northSent.cu = n.cu ∧ n.northSent.seq = n.seq ∧ n.northSent.rt = n.rt ∧ n.northSent.lm = n.lm
      ∧ n.northSent.ft = n.ft ∧ n.northSent.eq = n.eq ∧ n.northSent.mu = n.mu ∧ n.northSent.ch = n.ch
      ∧ n.northSent.ss = n.ss ∧ n.northSent.pc = n.pc := by
  unfold northSent
  simp

@[simp] theorem southSent_frame (n : Node) (w : Sender) :
    (n.southSent w).now = n.now ∧ (n.southSent w).identity = n.identity ∧ (n.southSent w).cfg = n.cfg
      ∧ (n.southSent w).cu = n.cu ∧ (n.southSent w).seq = n.seq ∧ (n.southSent w).rt = n.rt
      ∧ (n.southSent w).lm = n.lm ∧ (n.southSent w).ft = n.ft ∧ (n.southSent w).eq = n.eq
      ∧ (n.southSent w).mu = n.mu ∧ (n.southSent w).ss = n.ss ∧ (n.southSent w).pc = n.pc := by
  unfold southSent
  (repeat' split) <;> simp

@[simp] theorem startReceivers_frame (n : Node) :
    n.startReceivers.now = n.now ∧ n.startReceivers.identity = n.identity ∧ n.startReceivers.cfg = n.cfg
      ∧ n.startReceivers.cu = n.cu ∧ n.startReceivers.seq = n.seq ∧ n.startReceivers.rt = n.rt
      ∧ n.startReceivers.lm = n.lm ∧ n.startReceivers.ft = n.ft ∧ n.startReceivers.eq = n.eq
      ∧ n.startReceivers.mu = n.mu ∧ n.startReceivers.ch = n.ch ∧ n.startReceivers.ss = n.ss
      ∧ n.startReceivers.pc = n.pc := by
  unfold startReceivers
  simp

@[simp] theorem beginStartUp_frame (n : Node) :
    n.beginStartUp.now = n.now ∧ n.beginStartUp.identity = n.identity ∧ n.beginStartUp.cfg = n.cfg
      ∧ n.beginStartUp.seq = n.seq ∧ n.beginStartUp.rt = n.rt ∧ n.beginStartUp.lm = n.lm
      ∧ n.beginStartUp.ft = n.ft ∧ n.beginStartUp.eq = n.eq ∧ n.beginStartUp.mu = n.mu
      ∧ n.beginStartUp.ch = n.ch ∧ n.beginStartUp.ss = n.ss := by
  unfold beginStartUp
  simp

end Sys2Proof.Machine.Node
end

