-- ==== Sys2Proof/Tests/Slice0.lean ====
section
/-! SUPPORT. The model's own tests: ill-formed commands are refused, the spec's worked numbers come out, and every
statement of Certificates/Slice0/Obligations.lean that has hypotheses has a state and operands that meet them. -/

namespace Sys2Proof.Tests

open Sys2Proof.Machine

/-! ### Well-formedness: one ill-formed command for each check -/

/-- A symbol whose three samples of every bit agree. -/
def clean (bits : BitVec 11) : LineSymbol where
  first := bits
  second := bits
  third := bits
  afterHigh := true

/-- The symbol of a byte, with its mark bit. -/
def symbol (b : Byte) (mark : Bool) : LineSymbol :=
  clean (BitVec.ofNat 11 (2 * b.toNat + 512 * mark.toNat + 1024))

theorem test_wf_accepts : (Instr.frameReceivedSouth 0 (symbol 5 false)).wf = true := by decide
theorem test_wf_south_mark : (Instr.frameReceivedSouth 0 (symbol 5 true)).wf = false := by decide
theorem test_wf_north_mark : (Instr.frameReceivedNorth 0 (symbol 5 true)).wf = false := by decide
theorem test_wf_readBack_mark : (Instr.frameReadBack 0 .txS (symbol 5 true)).wf = false := by decide
theorem test_wf_readBack_lane : (Instr.frameReadBack 0 .rxS (symbol 5 false)).wf = false := by decide
theorem test_wf_framing_stop_high : (Instr.framingError 0 .rxS (symbol 5 false)).wf = false := by decide
theorem test_wf_framing_no_start : (Instr.framingError 0 .rxS (clean 1)).wf = false := by decide
theorem test_wf_length_96 : (Instr.lengthError 0 .rxS (symbol 96 false)).wf = false := by decide
theorem test_wf_length_97 : (Instr.lengthError 0 .rxS (symbol 97 false)).wf = true := by decide
theorem test_wf_truncated_no_mark : (Instr.truncatedFrame 0 .rxS (symbol 5 false)).wf = false := by decide
theorem test_wf_crc_mark : (Instr.crcMismatch 0 .rxS (symbol 5 true)).wf = false := by decide
theorem test_wf_symbol_stop_low : (Instr.symbolReceived 0 .rxS (clean 0)).wf = false := by decide

/-- The table gives bits to no row, so no word spells a command. -/
theorem test_no_word_spells_a_command : decodeTableWord 0 0 = none := rfl

/-! ### The spec's worked numbers -/

/-- R160: the CRC of the ASCII digits 1 to 9. -/
theorem test_crc : crcOf [0x31, 0x32, 0x33, 0x34, 0x35, 0x36, 0x37, 0x38, 0x39] = 0x29B1 := by decide +kernel

/-- R29: an average of −2.5 is −2, one of 2.5 is 3. -/
theorem test_average : roundHalfUp (-5) 2 = -2 ∧ roundHalfUp 5 2 = 3 := by decide

/-- 3.7: the four samples of CELL3 make 36,813 with spread 6. -/
theorem test_cell3 :
    let a := [36815, 36809, 36814].foldl (fun a v => Accum.add (some a) v) (Accum.add none 36812)
    a.average = 36813 ∧ a.spread = some 6 := by decide

/-- R159: one bad sample of three changes no bit and is noise. -/
theorem test_majority :
    ({ first := 0x40A, second := 0x40A, third := 0x7FF, afterHigh := true } : LineSymbol).byte = 5
      ∧ ({ first := 0x40A, second := 0x40A, third := 0x7FF, afterHigh := true } : LineSymbol).noisy = true := by decide

/-- R100: the windows of an odd and of an even channel of duty 32 meet and do not overlap. -/
theorem test_windows : inWindow 1 32 31 = true ∧ inWindow 1 32 32 = false ∧ inWindow 2 32 31 = false
    ∧ inWindow 2 32 32 = true ∧ inWindow 2 32 63 = true := by decide

/-! ### States for the witnesses -/

/-- An assigned, ACTIVE node. -/
def active : State :=
  { State.reset with
    cu := { State.reset.cu with st := .idle }
    li := { State.reset.li with address := 7 }
    pc := { State.reset.pc with power := .active, phase := .complete } }

/-- The ACTIVE node, changed by `g`, with the frame `f` alone in its command queue. -/
def holding (g : State → State) (f : Frame) : State :=
  let s := g active
  { s with
    ch := { cmdQueue := [f], replyQueue := [], pendingReplies := [], reasons := s.ch.reasons, lastAlert := s.ch.lastAlert }
    pc := { s.pc with power := .active } }

/-- Some state meets R176 with a frame of this kind and payload, and has the property `P`. -/
def Witness (k : Byte) (p : List Byte) (P : State → Frame → Prop) : Prop :=
  ∃ (s : State) (f : Frame) (rest : List Frame), s.Takes f rest ∧ f.kind = k ∧ f.payload = p ∧ P s f

theorem Witness.of (g : State → State) (address : Byte) {k : Byte} {p : List Byte} {P : State → Frame → Prop}
    (h : P (holding g { address := address, kind := k, payload := p }) { address := address, kind := k, payload := p }) :
    Witness k p P := by
  refine ⟨_, _, [], ⟨rfl, rfl, ?_, rfl⟩, rfl, rfl, h⟩
  exact Nat.zero_lt_succ 3

/-- A frame of this kind and payload can be taken in some state. -/
theorem Witness.any (k : Byte) (p : List Byte) : Witness k p fun _ _ => True := .of id 7 trivial

/-- A plan of one step. -/
def plan (mode : Mode) (interval : Nat) (quiet : Bool) : Plan where
  mode := mode
  interval := interval
  steps := [{ source := 3, samples := 4, kind := .fast, quiet := quiet }]

/-- The node with the sequencer in the state `q`, at the first step of a plan. -/
def scanning (q : SeqState) (s : State) : State :=
  { s with seq := { s.seq with
      active := some (plan .continuous 5 true)
      st := q
      stepIndex := some 1
      due := some 9 } }

/-- The node with a line check in the state `m`. -/
def checking (m : MuState) (round : RoundKind) (s : State) : State :=
  { s with mu := {
      st := m
      op := some {
        tag := 3
        broadcast := false
        body := .line {
          n := 14, threshold := 500, lo := 2, hi := 3, round := round, a := 2, b := 3, rounds := 1
          offReading := some 0 } } } }

/-- The node with a trim of CELL in the state `m`, at the bit `bit`. -/
def trimming (m : MuState) (bit : Nat) (selected : RangeSet) (s : State) : State :=
  { s with mu := {
      st := m
      op := some {
        tag := 3
        broadcast := false
        body := .trim {
          selected := selected, committed := { cell := none, aux := none, stack := none }, range := .cell, u := 0
          bit := bit } } } }

/-- The node with a save in progress. -/
def saving (s : State) : State :=
  { s with ss := { s.ss with saving := some {
      snapshot := s.toNode.snapshot
      tag := 3
      broadcast := false
      endsAt := 40 } } }

/-- The node after reset, its converter IDLE, with an image that holds a plan and AUTOSTART as `on`. -/
def stored (on : Bool) : State :=
  { State.reset with
    cu := { State.reset.cu with st := .idle }
    ss := { State.reset.ss with image := some {
      settings := { Settings.factory with autostart := on }
      limits := (State.reset.lm.recs.filter fun r => decide (r.source ≤ 20)).map fun r => r.cfg
      trim := State.reset.cu.trim
      plan := some (plan .continuous 5 true) } } }

/-- The node with the Equalizer in the state `e`, every channel with the budget `budget`. -/
def bleeding (e : EqState) (budget : Nat) (s : State) : State :=
  { s with eq := { s.eq with
      st := e
      channels := s.eq.channels.map fun c => { c with budget := budget } } }

/-- The node with one fault entry. -/
def faulty (k : FaultKind) (src : Nat) (isActive : Bool) (s : State) : State :=
  { s with ft := { s.ft with entries := [{
      kind := k, source := src, active := isActive, count := 2, first := 1, last := 1, value := none }] } }

/-- The node with a watch pass at the stage `w`. -/
def watching (w : WatchStage) (s : State) : State :=
  { s with pc := { s.pc with watchPass := some { n := 14, pass := 5, stage := w } } }

/-- A conversion that ends at the moment 20. -/
def conversion : Conversion where
  request := .source 3 .fast
  trim := 0
  population := 14
  injection := .off
  endsAt := 20

/-- The node with a conversion in progress, held by `c`. -/
def converting (c : Option Client) (s : State) : State :=
  { s with cu := { s.cu with st := .converting conversion, holder := c } }

/-- The node with a request of `who` that waits until the moment 30. -/
def asking (who : Client) (s : State) : State :=
  { s with eq := { s.eq with quiet := s.eq.quiet.set who (some {
      set := [2, 3, 4], settle := 30, grantAt := 30, granted := false }) } }

/-- The node with a lane's receiver in the state `rx`. -/
def receiving (rx : Receiver) (s : State) : State :=
  { s with li := { s.li with laneRxS := { s.li.laneRxS with rx := rx } } }

/-! ### One step -/

/-- R178: PING of the ACTIVE node 7: its reply is being sent, and everything it reports is at rest. -/
theorem test_ping :
    (match exec .ping (holding id { address := 7, kind := 0x02, payload := [9] }) with
      | .next t => t.ch.replyQueue
      | .fault _ => []
      | .refused _ => [])
      = [{ address := 7, kind := 0x82, payload := [9, 0, 7, 1, 0, 0, 0, 0, 0, 0, 0, 0] }] := by decide +kernel

/-- R105: a closed switch's slot takes one from its budget. -/
theorem test_slot :
    (match exec .slotBoundary { (bleeding .running 5 active) with
        eq := { (bleeding .running 5 active).eq with
          slotEnd := some 16000
          channels := [{ Channel.initial 0 1 with duty := 32, budget := 5, closed := true }] } } with
      | .next t => t.eq.channels.map fun c => (c.budget, c.lifetime, c.closed)
      | .fault _ => []
      | .refused _ => []) = [(4, 1, true)] := by decide +kernel

/-- The outcome of a command as a state. -/
def after (c : Instr) (s : State) : State :=
  match exec c s with
  | .next t => t
  | .fault _ => s
  | .refused _ => s

/-- R159: of a line that stays low after a framing error no second one is counted; once it has been high, one is. -/
theorem test_low_line_counts_once :
    let low : LineSymbol := { clean 0 with afterHigh := false }
    let once := after (.framingError 11 .rxN low) active
    once.li.laneRxN.counters.framing = 1 ∧ after (.framingError 11 .rxN low) once = once
      ∧ (after (.framingError 12 .rxN (clean 0)) once).li.laneRxN.counters.framing = 2 := by decide +kernel

/-- R162: the gap timer expires 100 µs after the last symbol and not once the clock has passed that moment. -/
theorem test_gap :
    (after (.gapTimeout .rxS) (receiving (.header 1 none) active)).now = 100
      ∧ (after (.gapTimeout .rxS) (receiving (.header 1 none) active)).li.laneRxS.rx = .hunt
      ∧ after (.gapTimeout .rxS) { (receiving (.header 1 none) active) with now := 105 }
          = { (receiving (.header 1 none) active) with now := 105 } := by decide +kernel

/-- R170: RX_S that was high 1,999 µs ago is no break yet; 2,000 µs ago it is one. -/
theorem test_break :
    after (.breakDetected 1999) active = active ∧ (after (.breakDetected 2000) active).pc.cause = .break_ := by
  decide +kernel

/-- R56: a watch sample of a cell above the population in force is not written. -/
theorem test_watch_above_population :
    let s := converting (some .watch) (watching (.converting 3) active)
    (findRecord (after (.conversionComplete 30000000) s).rt 3).isSome = true
      ∧ (after (.conversionComplete 30000000) { s with cfg := { s.cfg with population := 2 } }).rt = s.rt := by
  decide +kernel

/-! ### Witnesses: the step and the rows -/

theorem test_witness_StepTakesTheFrontCommand :
    ({ active with pending := [.ping] } : State).pending = .ping :: [] ∧ active.pending = [] := ⟨rfl, rfl⟩

theorem test_witness_CommandsWaitForTheirConditions :
    State.reset.pc.power ≠ .active
      ∧ 4 ≤ ({ active.ch with replyQueue := List.replicate 4 { address := 1, kind := 1, payload := [] } } :
          CommandHandler).replyQueue.length
      ∧ active.ch.cmdQueue = []
      ∧ Witness 0x02 [9] (fun _ f => f.kind ≠ 0x01 ∧ f.kind ≠ 0x10 ∧ f.kind ≠ 0x20) :=
  ⟨by decide, by decide, rfl, .of id 7 (by decide)⟩

theorem test_witness_RepliesAndTheFirstRefusals :
    Witness 0x06 [] (fun _ f => f.kind ∉ commandKinds) ∧ Witness 0x80 [9] (fun _ f => f.kind ∉ commandKinds)
      ∧ Witness 0x02 [9] (fun _ f => f.kind ∈ commandKinds)
      ∧ Witness 0x02 [] (fun _ f => lengthIs 1 f.payload = false)
      ∧ Witness 0x01 [9] (fun _ f => f.address = 63) ∧ Witness 0x01 [9] (fun _ f => f.address ≠ 63) :=
  ⟨.of id 7 (by decide), .of id 7 (by decide), .of id 7 (by decide), .of id 7 (by decide), .of id 63 (by decide),
    .of id 7 (by decide)⟩

/-- A channel that is inhibited and one that is not. -/
theorem test_witness_SwitchesOpenAtTheEndOfAnEvent :
    active.LimitTableLaw ∧ (faulty .lineOpen 2 true active).LimitTableLaw
      ∧ (faulty .lineOpen 2 true active).InhibitsOne 3 ∧ ¬active.InhibitsOne 3 ∧ ¬active.InhibitsEvery
      ∧ (faulty .sumMismatch 0 true active).InhibitsEvery := by decide

/-- An ALERT that is due with places free, one with none, and one that is not due. -/
theorem test_witness_ReplyPlacesAreClaimedInOrder :
    ({ active.toNode with ch := { active.ch with reasons := { faultNew := true, eqFinished := false, watchWake := false } } }
        : Node).AlertIsDue ∧ active.ch.replyQueue.length + active.ch.pendingReplies.length < 4
      ∧ ¬active.AlertIsDue := by decide

theorem test_witness_FreeTransmittersStart :
    active.li.txN = none ∧ active.li.txS = none ∧ active.finish.ch.replyQueue = [] ∧ active.li.south = []
      ∧ active.li.lastSender = .forward := by decide

/-! ### Witnesses: commands of the node, settings and store -/

theorem test_witness_AssignGivesAnUnassignedNodeItsAddress :
    Witness 0x01 [9, 1] (fun s f => s.li.address = 0 ∧ f.address ≠ 63)
      ∧ Witness 0x01 [9, 60] (fun s f => s.li.address = 0 ∧ f.address ≠ 63)
      ∧ Witness 0x01 [9, 0] (fun s _ => s.li.address = 0) ∧ Witness 0x01 [9, 61] (fun s _ => s.li.address = 0)
      ∧ Witness 0x01 [9, 1] (fun s _ => s.li.address ≠ 0) ∧ Witness 0x01 [9, 1] (fun _ f => f.address = 63) :=
  ⟨.of (fun s => { s with li := { s.li with address := 0 } }) 0 (by decide),
    .of (fun s => { s with li := { s.li with address := 0 } }) 0 (by decide),
    .of (fun s => { s with li := { s.li with address := 0 } }) 0 (by decide),
    .of (fun s => { s with li := { s.li with address := 0 } }) 0 (by decide), .of id 7 (by decide),
    .of id 63 (by decide)⟩

theorem test_witness_NodeAndLinkReport :
    Witness 0x02 [9] (fun _ f => f.payload.length = 1) ∧ Witness 0x03 [9] (fun _ f => f.payload.length = 1)
      ∧ Witness 0x04 [9, 0] (fun _ _ => True) ∧ Witness 0x04 [9, 1] (fun _ _ => True)
      ∧ Witness 0x04 [9, 2] (fun _ _ => True) :=
  ⟨.of id 7 rfl, .of id 7 rfl, .any .., .any .., .any ..⟩

theorem test_witness_ResetNodeLeavesTheSoftResetState :
    Witness 0x05 [9] (fun _ f => f.payload.length = 1 ∧ f.address ≠ 63)
      ∧ Witness 0x05 [9] (fun _ f => f.payload.length = 1 ∧ f.address = 63)
      ∧ Witness 0x05 [9] (fun s f => f.payload.length = 1 ∧ s.li.txN ≠ none ∧ s.li.txS ≠ none) :=
  ⟨.of id 7 (by decide), .of id 63 (by decide), .of (fun s => { s with li := { s.li with
    txN := some 55, txS := some { sender := .forward, endsAt := 55 } } }) 7 (by decide)⟩

theorem test_witness_PopulationWriteIsJudged :
    Witness 0x10 [9, 1, 3] (fun _ _ => True) ∧ Witness 0x10 [9, 1, 15] (fun _ _ => True)
      ∧ Witness 0x10 [9, 1, 14] (fun s _ => 14 = s.cfg.population)
      ∧ Witness 0x10 [9, 1, 4] (fun s _ => 4 ≠ s.cfg.population ∧ s.PopulationMayBecome 4)
      ∧ Witness 0x10 [9, 1, 4] (fun s _ => 4 ≠ s.cfg.population ∧ ¬s.PopulationMayBecome 4) :=
  ⟨.any .., .any .., .of id 7 (by decide), .of id 7 (by decide), .of (bleeding .idle 1) 7 (by decide)⟩

theorem test_witness_PlainItemsTakeTheirValues :
    Witness 0x10 [9, 6, 255, 255] (fun _ _ => True) ∧ Witness 0x10 [9, 7, 15] (fun _ _ => True)
      ∧ Witness 0x10 [9, 7, 16] (fun _ _ => True) ∧ Witness 0x10 [9, 8, 8, 0] (fun _ _ => two 8 0 = 2048)
      ∧ Witness 0x10 [9, 8, 0, 0] (fun _ _ => True) ∧ Witness 0x10 [9, 11, 255] (fun _ _ => True)
      ∧ Witness 0x10 [9, 12, 14, 16] (fun _ _ => two 14 16 = 3600)
      ∧ Witness 0x10 [9, 12, 14, 17] (fun _ _ => two 14 17 = 3601) ∧ Witness 0x10 [9, 13, 0, 0] (fun _ _ => True)
      ∧ Witness 0x10 [9, 13, 0, 1] (fun _ _ => True) ∧ Witness 0x10 [9, 14, 1] (fun _ _ => True)
      ∧ Witness 0x10 [9, 14, 2] (fun _ _ => True) :=
  ⟨.any .., .any .., .any .., .of id 7 rfl, .any .., .any .., .of id 7 rfl, .of id 7 rfl, .any .., .any .., .any ..,
    .any ..⟩

theorem test_witness_OwnedItemsActAtOnce :
    Witness 0x10 [9, 2, 2] (fun _ _ => True) ∧ Witness 0x10 [9, 5, 3] (fun _ _ => True)
      ∧ Witness 0x10 [9, 9, 0] (fun _ _ => True) ∧ Witness 0x10 [9, 10, 0] (fun _ _ => True)
      ∧ Witness 0x10 [9, 10, 1] (fun _ _ => True) ∧ Witness 0x10 [9, 10, 2] (fun _ _ => True)
      ∧ Witness 0x10 (9 :: 15 :: 0 :: List.replicate 22 1) (fun _ f => 21 < f.payload.length - 3)
      ∧ Witness 0x10 [9, 15, 3, 1, 21] (fun _ _ => [(1 : Byte), 21].Nodup)
      ∧ Witness 0x10 [9, 15, 0] (fun _ _ => True) ∧ Witness 0x10 [9, 15, 4] (fun _ _ => True)
      ∧ Witness 0x10 [9, 15, 0, 1, 1] (fun _ _ => ¬[(1 : Byte), 1].Nodup) :=
  ⟨.any .., .any .., .any .., .any .., .any .., .any .., .of id 7 (by decide), .of id 7 (by decide), .any .., .any ..,
    .of id 7 (by decide)⟩

theorem test_witness_ConfigWriteChecksIdAndWidth :
    Witness 0x10 [] (fun _ f => f.payload.length ≤ 1) ∧ Witness 0x10 [9] (fun _ f => f.payload.length ≤ 1)
      ∧ Witness 0x10 [9, 0] (fun _ _ => True) ∧ Witness 0x10 [9, 16, 1] (fun _ _ => True)
      ∧ Witness 0x10 [9, 6, 1] (fun _ f => (f.payload.drop 2).length ≠ 2) ∧ Witness 0x10 [9, 15] (fun _ _ => True) :=
  ⟨.of id 7 (by decide), .of id 7 (by decide), .any .., .any .., .of id 7 (by decide), .any ..⟩

theorem test_witness_ConfigReadReportsTheItem :
    Witness 0x11 [9, 1] (fun _ _ => True) ∧ Witness 0x11 [9, 14] (fun _ _ => True)
      ∧ Witness 0x11 [9, 15, 3] (fun _ _ => True) ∧ Witness 0x11 [9, 15, 4] (fun _ _ => True)
      ∧ Witness 0x11 [9, 0] (fun _ _ => True) ∧ Witness 0x11 [9, 16, 0] (fun _ _ => True)
      ∧ Witness 0x11 [9, 15] (fun _ _ => True) ∧ Witness 0x11 [9, 14, 0] (fun _ _ => True) :=
  ⟨.any .., .any .., .any .., .any .., .any .., .any .., .any .., .any ..⟩

theorem test_witness_LimitsAreWrittenAndRead :
    Witness 0x12 [9, 0, 0, 2, 3, 0xC3, 0x50, 0, 0, 15] (fun _ _ => limitValue 1 0xC3 0x50 = sourceHigh 1)
      ∧ Witness 0x12 [9, 0x10, 0, 0, 2, 0, 0, 0xFE, 0x70, 1] (fun _ _ => limitValue 20 0xFE 0x70 = sourceLow 20)
      ∧ Witness 0x12 [9, 0, 0, 2, 3, 0xC3, 0x51, 0, 0, 15] (fun _ _ => sourceHigh 1 < limitValue 1 0xC3 0x51)
      ∧ Witness 0x12 [9, 0, 0, 0, 0, 0, 0, 0, 0, 1] (fun _ _ => True)
      ∧ Witness 0x13 [9, 1] (fun s _ => s.LimitTableLaw ∧ ∃ r ∈ s.lm.recs, r.source = 1)
      ∧ Witness 0x13 [9, 0] (fun s _ => s.LimitTableLaw) ∧ Witness 0x13 [9, 22] (fun s _ => s.LimitTableLaw) :=
  ⟨.of id 7 (by decide), .of id 7 (by decide), .of id 7 (by decide), .any .., .of id 7 (by decide), .of id 7 (by decide),
    .of id 7 (by decide)⟩

theorem test_witness_TheStoreSavesAndRestores :
    Witness 0x14 [9] (fun s _ => s.ss.saving = none) ∧ Witness 0x14 [9] (fun s _ => s.ss.saving ≠ none)
      ∧ (saving active).Due 40 ∧ (saving active).ss.saving.map (fun v => v.endsAt) = some 40
      ∧ Witness 0x15 [9] (fun s _ => s.seq.st = .stopped ∧ s.eq.st = .idle ∧ (∀ c ∈ s.eq.channels, c.staged = none)
          ∧ s.mu.st = .idle)
      ∧ Witness 0x15 [9] (fun s _ => s.eq.st ≠ .idle) :=
  ⟨.of id 7 (by decide), .of saving 7 (by decide), by decide, by decide, .of id 7 (by decide),
    .of (bleeding .running 1) 7 (by decide)⟩

/-! ### Witnesses: plans, results and faults -/

theorem test_witness_PlanWriteStagesAPlan :
    Witness 0x20 [9, 1, 0, 0] (fun _ f => f.payload.length < 5) ∧ Witness 0x20 [9, 1, 0, 0, 1] (fun _ _ => True)
      ∧ Witness 0x20 [9, 2, 0, 0, 0] (fun _ _ => True)
      ∧ Witness 0x20 [9, 1, 0, 5, 1, 14, 36] (fun s _ => ∃ l ∈ stepsOf [14, 36], ∀ x ∈ l, x.MayStand s.cfg.population)
      ∧ Witness 0x20 [9, 2, 0, 5, 1, 14, 36] (fun _ _ => True)
      ∧ Witness 0x20 [9, 1, 0, 5, 1, 22, 36] (fun _ _ => stepsOf [22, 36] = none)
      ∧ Witness 0x20 [9, 1, 0, 5, 1, 20, 36] (fun s _ => ∃ l ∈ stepsOf [20, 36], ∃ x ∈ l, ¬x.MayStand s.cfg.population)
      ∧ Witness 0x20 (9 :: 1 :: 0 :: 5 :: 25 :: List.replicate 50 1) (fun _ f => f.payload.length = 5 + 2 * 25) :=
  ⟨.of id 7 (by decide), .any .., .any .., .of id 7 (by decide), .any .., .of id 7 (by decide), .of id 7 (by decide),
    .of id 7 (by decide)⟩

theorem test_witness_PlanReadReportsAPlace :
    Witness 0x21 [9, 0] (fun s _ => s.seq.active ≠ none) ∧ Witness 0x21 [9, 0] (fun s _ => s.seq.active = none)
      ∧ Witness 0x21 [9, 1] (fun s _ => s.seq.staged ≠ none) ∧ Witness 0x21 [9, 1] (fun s _ => s.seq.staged = none)
      ∧ Witness 0x21 [9, 2] (fun _ _ => True) :=
  ⟨.of (scanning .passGap) 7 (by decide), .of id 7 (by decide),
    .of (fun s => { s with seq := { s.seq with staged := some (plan .single 0 false) } }) 7 (by decide),
    .of id 7 (by decide), .any ..⟩

theorem test_witness_ScanStartActivatesAndStartsAPass :
    Witness 0x22 [9] (fun s _ => s.seq.st ≠ .stopped) ∧ Witness 0x22 [9] (fun s _ => s.mu.st ≠ .idle)
      ∧ Witness 0x22 [9] (fun s _ => s.seq.st = .stopped ∧ s.mu.st = .idle ∧ s.seq.staged = none ∧ s.seq.active = none)
      ∧ Witness 0x22 [9] (fun s _ => s.seq.st = .stopped ∧ s.mu.st = .idle ∧ (s.seq.staged.or s.seq.active) ≠ none) :=
  ⟨.of (scanning .passGap) 7 (by decide), .of (checking .spanOn .first) 7 (by decide), .of id 7 (by decide),
    .of (scanning .stopped) 7 (by decide)⟩

theorem test_witness_ScanStopStopsTheSequencer :
    Witness 0x23 [9] (fun s _ => s.seq.st = .stopped) ∧ Witness 0x23 [9] (fun s _ => s.seq.st = .deferred)
      ∧ Witness 0x23 [9] (fun s _ => s.seq.st = .waitingCu)
      ∧ Witness 0x23 [9] (fun s _ => s.seq.st = .converting ∧ s.cu.holder ≠ some .seq)
      ∧ Witness 0x23 [9] (fun s _ => s.seq.st = .converting ∧ s.cu.holder = some .seq) :=
  ⟨.of id 7 (by decide), .of (scanning .deferred) 7 (by decide), .of (scanning .waitingCu) 7 (by decide),
    .of (scanning .converting) 7 (by decide),
    .of (fun s => converting (some .seq) (scanning .converting s)) 7 (by decide)⟩

theorem test_witness_ScanStatusReportsAndTakes :
    Witness 0x24 [9, 0] (fun _ _ => True) ∧ Witness 0x24 [9, 1] (fun _ _ => True)
      ∧ Witness 0x24 [9, 2] (fun _ _ => True) := ⟨.any .., .any .., .any ..⟩

theorem test_witness_ReadsReportTheRecords :
    Witness 0x30 [9, 0, 1] (fun _ _ => True) ∧ Witness 0x30 (9 :: 1 :: List.replicate 21 21) (fun _ f => f.payload.length = 23)
      ∧ Witness 0x30 [9, 0, 22] (fun _ _ => True) ∧ Witness 0x30 [9, 2, 1] (fun _ _ => True)
      ∧ Witness 0x31 [9, 3, 0] (fun _ _ => True) ∧ Witness 0x31 [9, 3, 1, 20] (fun _ _ => True)
      ∧ Witness 0x31 [9, 4, 0] (fun _ _ => True) ∧ Witness 0x31 [9, 0, 0, 21] (fun _ _ => True) :=
  ⟨.any .., .of id 7 (by decide), .any .., .any .., .any .., .any .., .any .., .any ..⟩

theorem test_witness_ClearExtremaForgetsTheExtrema :
    Witness 0x32 [9, 0x20, 0, 2] (fun _ _ => True) ∧ Witness 0x32 [9, 0, 0, 0] (fun _ _ => True)
      ∧ Witness 0x32 [9, 0, 0, 1] (fun _ _ => True) ∧ Witness 0x32 [9, 0x40, 0, 0] (fun _ _ => True)
      ∧ ({ source := 1, content := none } : Record).content.bind Written.extrema = none :=
  ⟨.any .., .any .., .any .., .any .., rfl⟩

theorem test_witness_FaultReadReportsEntriesInOrder :
    Witness 0x40 [9, 31, 32] (fun _ _ => True) ∧ Witness 0x40 [9, 0, 1] (fun _ _ => True)
      ∧ Witness 0x40 [9, 32, 1] (fun _ _ => True) ∧ Witness 0x40 [9, 0, 0] (fun _ _ => True)
      ∧ Witness 0x40 [9, 0, 33] (fun _ _ => True) := ⟨.any .., .any .., .any .., .any .., .any ..⟩

theorem test_witness_AcknowledgementsRemoveClearedEntries :
    Witness 0x41 [9, 15, 0, 1] (fun s _ => s.FaultTableLaw) ∧ Witness 0x41 [9, 14, 0, 0] (fun s _ => s.FaultTableLaw)
      ∧ Witness 0x41 [9, 14, 0, 1] (fun s _ => s.FaultTableLaw
          ∧ ∀ e ∈ s.ft.entries, ¬(e.kind.code = 14 ∧ e.source = 0))
      ∧ Witness 0x41 [9, 14, 0, 2] (fun s _ => s.FaultTableLaw
          ∧ ∃ e ∈ s.ft.entries, e.kind.code = 14 ∧ e.source = 0 ∧ e.active = true)
      ∧ Witness 0x41 [9, 14, 0, 1] (fun s _ => s.FaultTableLaw
          ∧ ∃ e ∈ s.ft.entries, e.kind.code = 14 ∧ e.source = 0 ∧ e.active = false ∧ e.count ≠ 1)
      ∧ Witness 0x41 [9, 14, 0, 2] (fun s _ => s.FaultTableLaw
          ∧ ∃ e ∈ s.ft.entries, e.kind.code = 14 ∧ e.source = 0 ∧ e.active = false ∧ e.count = 2)
      ∧ Witness 0x42 [9] (fun s _ => s.FaultTableLaw) :=
  ⟨.of id 7 (by decide), .of id 7 (by decide), .of id 7 (by decide), .of (faulty .storeInvalid 0 true) 7 (by decide),
    .of (faulty .storeInvalid 0 false) 7 (by decide), .of (faulty .storeInvalid 0 false) 7 (by decide),
    .of id 7 (by decide)⟩

/-! ### Witnesses: the Equalizer, maintenance and standby -/

theorem test_witness_EqSetStagesValues :
    Witness 0x50 [9, 14, 32, 255, 255, 255] (fun s _ => 14 ≤ s.cfg.population)
      ∧ Witness 0x50 [9, 1, 33, 0, 0, 1] (fun _ _ => True) ∧ Witness 0x50 [9, 0, 1, 0, 0, 1] (fun _ _ => True)
      ∧ Witness 0x50 [9, 1, 1, 0, 0, 1, 1, 1, 0, 0, 1] (fun _ _ => ¬[1, 1].Nodup) :=
  ⟨.of id 7 (by decide), .any .., .any .., .of id 7 (by decide)⟩

theorem test_witness_EqStopAndEqResume :
    Witness 0x51 [9] (fun s _ => s.eq.st = .running)
      ∧ Witness 0x52 [9] (fun s _ => s.eq.st = .safeStop ∧ ∃ c ∈ s.eq.channels, 0 < c.budget)
      ∧ Witness 0x52 [9] (fun s _ => s.eq.st = .safeStop ∧ ∀ c ∈ s.eq.channels, c.budget = 0)
      ∧ Witness 0x52 [9] (fun s _ => s.eq.st ≠ .safeStop) :=
  ⟨.of (bleeding .running 1) 7 (by decide), .of (bleeding .safeStop 1) 7 (by decide),
    .of (bleeding .safeStop 0) 7 (by decide), .of id 7 (by decide)⟩

theorem test_witness_EqReadReportsAndEmptiesTheMask :
    Witness 0x53 [9, 1] (fun s _ => s.ChannelLaw) ∧ Witness 0x53 [9, 14] (fun s _ => s.ChannelLaw)
      ∧ Witness 0x53 [9, 0] (fun s _ => s.ChannelLaw) ∧ Witness 0x53 [9, 15] (fun s _ => s.ChannelLaw) :=
  ⟨.of id 7 (by decide), .of id 7 (by decide), .of id 7 (by decide), .of id 7 (by decide)⟩

theorem test_witness_MaintenanceIsAcceptedOrRefused :
    Witness 0x60 [9, 0] (fun _ _ => True) ∧ Witness 0x60 [9, 8] (fun _ _ => True)
      ∧ Witness 0x60 [9, 7] (fun s _ => ¬(s.mu.st = .idle ∧ (s.seq.st = .stopped ∨ s.seq.st = .passGap)))
      ∧ Witness 0x60 [9, 1] (fun s _ => s.mu.st = .idle ∧ (s.seq.st = .stopped ∨ s.seq.st = .passGap))
      ∧ Witness 0x61 [9] (fun s _ => ¬(s.mu.st = .idle ∧ (s.seq.st = .stopped ∨ s.seq.st = .passGap)))
      ∧ Witness 0x61 [9] (fun s _ => s.mu.st = .idle ∧ (s.seq.st = .stopped ∨ s.seq.st = .passGap)) :=
  ⟨.any .., .any .., .of (scanning .deferred) 7 (by decide), .of (scanning .passGap) 7 (by decide),
    .of (checking .leaseWait .first) 7 (by decide), .of id 7 (by decide)⟩

theorem test_witness_MaintAbortEndsTheOperation :
    Witness 0x62 [9] (fun s _ => s.mu.op = none) ∧ Witness 0x62 [9] (fun s _ => s.mu.op.isSome = true) :=
  ⟨.of id 7 (by decide), .of (checking .spanOn .first) 7 (by decide)⟩

theorem test_witness_StandbyPutsTheNodeToSleep :
    Witness 0x70 [9] (fun s _ => s.mu.st ≠ .idle) ∧ Witness 0x70 [9] (fun s _ => s.pc.watchPass ≠ none)
      ∧ Witness 0x70 [9] (fun s _ => s.mu.st = .idle ∧ s.pc.watchPass = none)
      ∧ (bleeding .disabled 0 active).eq.st = .disabled :=
  ⟨.of (checking .spanOn .first) 7 (by decide), .of (watching .leaseWait) 7 (by decide), .of id 7 (by decide), rfl⟩

/-! ### Witnesses: converter, sequencer and maintenance unit -/

theorem test_witness_ConverterTimersEnterIdle :
    State.reset.Due 200 ∧ State.reset.cu.st = .powering 200 ∧ State.reset.cu.holder = none
      ∧ State.reset.cu.request = none
      ∧ ({ active with cu := { active.cu with
          st := .recovering 10, holder := some .mu, waiting := [.seq], request := some (.source 1 .fast) } } : State).Due
          10 := by decide

theorem test_witness_ConversionRequestsFollowTheTable :
    (1 ≤ 21 ∧ 21 ≤ 21) ∧ (converting (some .seq) active).cu.holder = some .seq
      ∧ (converting (some .seq) active).cu.st ≠ .idle ∧ (converting (some .seq) active).cu.st ≠ .off
      ∧ active.cu.st = .idle ∧ (0 ≤ 14 ∧ 14 ≤ active.cfg.population) ∧ (ConvRequest.source 21 .fast).Named := by decide

theorem test_witness_LeaseRequestsFollowTheTable :
    (converting (some .seq) active).cu.holder = some .seq ∧ active.cu.holder = none ∧ Client.mu ∉ active.cu.waiting
      ∧ active.cu.st = .idle ∧ (watching .leaseWait active).pc.watchPass ≠ none := by decide

theorem test_witness_SamplesMakeAStepsResult :
    (converting none active).Due 20 ∧ (converting none active).cu.holder = none
      ∧ (converting (some .seq) (scanning .stopped active)).Due 20
      ∧ (converting (some .seq) (scanning .converting active)).Due 20
      ∧ ((plan .continuous 5 true).steps[1 - 1]?.map fun x => x.samples) = some 4
      ∧ (plan .continuous 5 true).steps.length = 1 ∧ conversion.request = .source 3 .fast := by decide

theorem test_witness_StepsBeginWithTheirQuietRequest :
    (scanning .waitingCu active).seq.active = some (plan .continuous 5 true)
      ∧ ((plan .single 0 false).steps[1 - 1]?.map fun x => x.quiet) = some false
      ∧ (((scanning .waitingCu active).withSeq { active.seq with st := .quietWait }).quietRequest .seq [2, 3, 4]
          |>.quietGranted .seq) = false
      ∧ ((({ active with cfg := { active.cfg with quietSettle := 0 } } : State).toNode.quietRequest .seq [2, 3, 4]
          ).quietGranted .seq) = true := by decide

theorem test_witness_PassesFollowOneAnother :
    (scanning .converting active).seq.active = some (plan .continuous 5 true) ∧ (plan .single 0 true).mode = .single
      ∧ (scanning .converting active).now < 9 ∧ (scanning .passGap active).Due 9
      ∧ (scanning .passGap active).seq.due = some 9 ∧ (scanning .passGap active).mu.st = .idle
      ∧ (checking .spanOn .first (scanning .passGap active)).mu.st ≠ .idle
      ∧ (checking .spanOn .first (scanning .passGap active)).Due 9
      ∧ (scanning .deferred active).seq.st = .deferred
      ∧ ((scanning .deferred active).passStart false).seq.active = some (plan .continuous 5 true) := by decide

theorem test_witness_TrimReadingsSearchTheCode :
    (converting (some .mu) (trimming .trimTrial 5 { cell := true, aux := true, stack := true } active)).Due 20
      ∧ (converting (some .mu) (trimming .trimTrial 0 { cell := true, aux := false, stack := false } active)).Due 20
      ∧ 0 < conversion.sample 1000 ∧ ¬0 < conversion.sample 0 := by decide

theorem test_witness_LineCheckReadingsSearchTheLine :
    (converting (some .mu) (checking .spanOff .first active)).Due 20
      ∧ (converting (some .mu) (checking .spanOn .confirm active)).Due 20
      ∧ 500 < (conversion.sample 501000 - 0).natAbs ∧ ¬500 < (conversion.sample 500000 - 0).natAbs
      ∧ (checking (.injectSettle 40) .search active).Due 40 := by decide

theorem test_witness_OperationsEndWithTheirReply :
    (checking .spanOn .first active).mu.op.isSome = true ∧ active.ch.replyQueue.length < 4
      ∧ active.ch.pendingReplies = []
      ∧ 4 ≤ (List.replicate 4 ({ address := 1, kind := 1, payload := [] } : Frame)).length := by decide

theorem test_witness_QuietRequestsAreGrantedWhenSettled :
    (asking .seq (scanning .quietWait active)).Due 30 ∧ (asking .seq (scanning .passGap active)).seq.st ≠ .quietWait
      ∧ (asking .mu (checking .quietWait .first active)).Due 30 ∧ (asking .watch (watching .quietWait active)).Due 30
      ∧ (asking .mu active).Due 30 ∧ (asking .watch active).pc.watchPass = none
      ∧ (trimming .quietWait 5 { cell := false, aux := false, stack := true } active).mu.op.isSome = true := by decide

/-! ### Witnesses: slots, link and power -/

theorem test_witness_SlotBoundariesCountAndClose :
    ({ active with eq := { active.eq with slot := 63, slotEnd := some 16000 } } : State).Due 16000
      ∧ ({ (bleeding .running 1 active) with eq := { (bleeding .running 1 active).eq with slotEnd := some 16000 } } :
          State).Due 16000 := by decide

theorem test_witness_TimersOfLinkAndAlertsExpire :
    ({ active with li := { active.li with silence := some 5 } } : State).Due 5
      ∧ ({ active with li := { active.li with txN := some 5 } } : State).Due 5
      ∧ ({ active with li := { active.li with txS := some { sender := .reply, endsAt := 5 } } } : State).Due 5
      ∧ ({ active with li := { active.li with txS := some { sender := .forward, endsAt := 5 } } } : State).Due 5
      ∧ ({ active with ch := { active.ch with
          reasons := { faultNew := true, eqFinished := false, watchWake := false }, lastAlert := some 0 } } : State).Due
          (0 + active.cfg.alertHoldoff * 10000) := by decide

theorem test_witness_WatchPassesMeasureAndDecide :
    ({ active with pc := { active.pc with power := .standby, watchTimer := some 7 } } : State).Due 7
      ∧ (converting (some .watch) (watching (.converting 1) active)).Due 20
      ∧ (converting (some .watch) (watching (.converting 21) active)).Due 20
      ∧ (watching .quietWait active).pc.watchPass ≠ none ∧ (bleeding .disabled 0 active).eq.st = .disabled := by decide

theorem test_witness_ResetsAndBreaksBeginStartUp :
    active.Calm 2000 ∧ active.pc.receiving = true ∧ active.li.rxSHigh + 2000 ≤ active.now + 2000
      ∧ active.pc.phase ≠ .unpowered
      ∧ ({ active with pc := { active.pc with phase := .breakWait }, cu := { active.cu with st := .off } } : State).Calm
          10
      ∧ ({ active with pc := { active.pc with phase := .breakDrive 3000 } } : State).Due 3000 := by decide

theorem test_witness_StartUpLoadsAndBegins :
    ({ State.reset with cu := { State.reset.cu with st := .idle } } : State).Due 5000
      ∧ State.reset.pc.phase = .loading 5000 ∧ State.reset.ss.image = none
      ∧ (stored true).Due 5000 ∧ (stored true).pc.phase = .loading 5000
      ∧ (∃ im ∈ (stored true).ss.image, im.settings.autostart = true ∧ im.plan ≠ none)
      ∧ (stored false).Due 5000 ∧ (∃ im ∈ (stored false).ss.image, im.settings.autostart = false) := by decide

theorem test_witness_LaneReceiversFollowTheirTable :
    active.Calm 11 ∧ active.pc.receiving = true ∧ receiverAfter .hunt (symbol 7 true).marked (symbol 7 true).byte ≠ none
      ∧ (symbol 7 true).stops = true ∧ (clean 0).stops = false ∧ active.li.laneRxS.Hears 11 (symbol 7 true)
      ∧ ¬active.li.laneRxS.Hears 10 (symbol 7 true) ∧ (∀ j < 1, (symbol 7 true).majority.getLsbD (10 - j) = true)
      ∧ (∀ j < 11, (clean 0).majority.getLsbD (10 - j) = false)
      ∧ (receiving (.header 1 (some 2)) active).Calm 11 ∧ 96 < (symbol 97 false).byte.toNat
      ∧ (receiving (.crc 1 2 [] (some 0)) active).Due 100 := by decide

/-- A frame with the address `a`. -/
def addressed (a : Byte) : Frame where
  address := a
  kind := 1
  payload := [9]

/-- The ACTIVE node that waits for the last byte of the frame `f` on lane 0. -/
def awaiting (f : Frame) : State := receiving (.crc f.address f.kind f.payload (some (f.crc.extractLsb' 8 8))) active

/-- A good frame's last symbol, at each address a clause begins or ends with. -/
theorem test_witness_GoodFramesGoWhereTheirAddressSays :
    ∀ a ∈ ([0, 1, 7, 60, 61, 62, 63, 64] : List Byte),
      (awaiting (addressed a)).Calm 11 ∧ (awaiting (addressed a)).pc.receiving = true
        ∧ (awaiting (addressed a)).li.laneRxS.Hears 11 (symbol ((addressed a).crc.extractLsb' 0 8) false)
        ∧ (addressed a).crc = (addressed a).crc.extractLsb' 8 8 ++ (symbol ((addressed a).crc.extractLsb' 0 8) false).byte
        ∧ (symbol ((addressed a).crc.extractLsb' 0 8) false).stops = true
        ∧ (symbol ((addressed a).crc.extractLsb' 0 8) false).marked = false := by decide +kernel

/-! ### Witnesses: faults, judgements, results -/

theorem test_witness_RaisesAndClearsFollowTheirRules :
    (∀ e ∈ active.ft.entries, ¬(e.kind = .linkSilent ∧ e.source = 0)) ∧ active.ft.entries.length < 32
      ∧ (∃ e ∈ (faulty .linkSilent 0 false active).ft.entries, e.kind = .linkSilent ∧ e.source = 0)
      ∧ ((List.range 32).map fun i => ({
          kind := .lineOpen, source := i, active := false, count := 1, first := 0, last := 0, value := none } :
            FaultEntry)).length = 32 := by decide

theorem test_witness_ResultsAreWrittenAndJudged :
    (∃ u ∈ (LimitRec.initial 1).cfg.upper, u < 42501) ∧ ¬(∃ u ∈ (LimitRec.initial 1).cfg.upper, u < 42500)
      ∧ (∃ l ∈ (LimitRec.initial 1).cfg.lower, 24999 < l) ∧ ¬(∃ l ∈ (LimitRec.initial 1).cfg.lower, 25000 < l)
      ∧ (LimitRec.initial 20).cfg.p ≤ 1 + 1 ∧ 0 + 1 < (LimitRec.initial 1).cfg.p
      ∧ (active.lm.recs.find? fun r => r.source == 21) = some (LimitRec.initial 21)
      ∧ (∀ k ∈ List.range' 1 4, k ∈ [19, 4, 3, 2, 1]) ∧ active.lm.popMark = false := by decide

/-! ### Witnesses: the invariants -/

/-- A node that runs: the Equalizer RUNNING with one switch closed, in slot 0. -/
def running : State :=
  { active with
    eq := { active.eq with
      st := .running
      slotEnd := some 16000
      channels := active.eq.channels.map fun c =>
        if c.num = 1 then { c with duty := 32, budget := 5, closed := true } else c }
    pending := [.slotBoundary] }

/-- A step of the running node answers. -/
theorem test_running_steps : ∃ t, step running = .next t := ⟨_, rfl⟩

theorem test_witness_SwitchesCloseOnlyWhenTheyMay : running.SwitchLaw := by decide
theorem test_witness_AdjacentChannelsAreNeverBothClosed : running.AdjacentLaw ∧ running.ChannelRanges := by decide
theorem test_witness_StatesOfTheBlocksAgree : running.PowerLaw ∧ running.EqStateLaw ∧ running.ClientLaw := by decide
theorem test_witness_QueuesKeepTheirCapacities : running.CapacityLaw := by decide
theorem test_witness_FaultEntriesMatchTheLimitStates : running.FaultLaws := by decide
theorem test_witness_GrantedQuietIsSettled :
    (asking .seq active).QuietLaw
      ∧ ∃ t, step { (asking .seq active) with pending := [.quietGrant .seq] } = .next t := by
  refine ⟨?_, _, rfl⟩
  intro who
  cases who <;> decide
theorem test_witness_TheClockNeverPassesAnExpiry : running.TimeLaw := by decide
theorem test_witness_SettingsAndRecordsStayLegal :
    running.SettingsLaw ∧ running.ChannelRanges ∧ running.ChannelLaw ∧ running.LimitTableLaw ∧ running.ResultTableLaw :=
  ⟨⟨by decide, by decide, by decide⟩, by decide, by decide, by decide, by decide⟩

end Sys2Proof.Tests
end

section
/-! SUPPORT. CLEAR_EXTREMA (R54): which sources a mask names, what the Result Table holds once their extrema are
cleared, and what the row does with a frame it takes. -/

namespace Sys2Proof.Machine

theorem isSource_iff (src : Nat) : isSource src = true ↔ 1 ≤ src ∧ src ≤ 21 := by
  simp [isSource]

/-- R183: bit `c` of a source mask names code `c`. -/
theorem mem_sourcesOfMask (mask c : Nat) : c ∈ sourcesOfMask mask ↔ c < 24 ∧ mask.testBit c = true := by
  simp [sourcesOfMask]

/-- R183: the masks that name sources of the list only. -/
theorem sourcesOfMask_all_isSource (mask : Nat) :
    (sourcesOfMask mask).all isSource = true ↔ ∀ c ∈ List.range 24, mask.testBit c = true → 1 ≤ c ∧ c ≤ 21 := by
  simp only [List.all_eq_true, mem_sourcesOfMask, isSource_iff, List.mem_range, and_imp]

/-- R54: the cleared table, record by record, in the words of the mask. -/
theorem clearExtremaOf_sourcesOfMask (mask : Nat) (rt : List Record) :
    clearExtremaOf (sourcesOfMask mask) rt = rt.map fun r => if r.source < 24 ∧ mask.testBit r.source = true then
      { r with content := r.content.map fun w => { w with extrema := none } } else r := by
  simp only [clearExtremaOf, List.contains_iff_mem, mem_sourcesOfMask, Record.mapWritten]

/-- R54: a mask that names sources of the list only is carried out and answered OK. -/
theorem judgeClearExtrema_of_sources {n : Node} {f : Frame} {tag m2 m1 m0 : Byte} (hp : f.payload = [tag, m2, m1, m0])
    (hs : (sourcesOfMask (read3 m2 m1 m0)).all isSource = true) :
    n.judgeClearExtrema f = (n.withRt (clearExtremaOf (sourcesOfMask (read3 m2 m1 m0)) n.rt)).answer f .ok [] := by
  simp only [Node.judgeClearExtrema, Frame.body, hp, List.tail_cons, hs, if_true]

/-- R54: any other mask is refused INVALID. -/
theorem judgeClearExtrema_of_not_sources {n : Node} {f : Frame} {tag m2 m1 m0 : Byte}
    (hp : f.payload = [tag, m2, m1, m0]) (hs : ¬(sourcesOfMask (read3 m2 m1 m0)).all isSource = true) :
    n.judgeClearExtrema f = n.answer f .invalid [] := by
  simp only [Node.judgeClearExtrema, Frame.body, hp, List.tail_cons, hs, Bool.false_eq_true, if_false]

/-- R175, R176: the row CLEAR_EXTREMA with a frame of its kind and length at the front. -/
theorem exec_clearExtrema_of_takes {s : State} {f : Frame} {rest : List Frame} (ht : s.Takes f rest)
    (hk : f.kind = 0x32) (hl : f.payload.length = 4) :
    exec .clearExtrema s = s.ends ((s.left rest).judgeClearExtrema f) := by
  have hrow : isKind 0x32 f = true := by simp [isKind, hk]
  have hfits : lengthIs 4 f.payload = true := by simp [lengthIs, hl]
  calc exec .clearExtrema s
      = s.onNode (Node.command (isKind 0x32) (lengthIs 4) Node.judgeClearExtrema) := rfl
    _ = s.ends ((s.left rest).judgeClearExtrema f) := by
      rw [State.onNode_eq, Node.command_of_takes ht hrow, if_pos hfits, State.ends]

/-- R46: a write to a record without extrema gives it both, equal to the value. -/
theorem write_extrema_of_none {r : Record} (h : r.content.bind Written.extrema = none) (w : ResultWrite)
    (epoch : BitVec 8) :
    (r.write w epoch).content.bind Written.extrema = some { least := w.value, greatest := w.value } := by
  simp only [Record.write, h, Extrema.update, Option.bind_some]

/-- Settles O24: the mask either names sources of the list only, and the row clears them, or names another code, and
the row refuses. -/
theorem clearExtremaForgetsTheExtrema : Obligations.ClearExtremaForgetsTheExtrema := by
  refine ⟨fun s f rest tag m2 m1 m0 ht hk hp => ⟨fun hall => ?cleared, fun hbad => ?refused⟩,
    fun _ w epoch hnone => write_extrema_of_none hnone w epoch⟩
  case cleared =>
    have hs : (sourcesOfMask (read3 m2 m1 m0)).all isSource = true := (sourcesOfMask_all_isSource _).mpr hall
    rw [exec_clearExtrema_of_takes ht hk (by simp [hp]), judgeClearExtrema_of_sources hp hs,
      clearExtremaOf_sourcesOfMask, Node.left_rt, read3]
  case refused =>
    have hs : ¬(sourcesOfMask (read3 m2 m1 m0)).all isSource = true := fun hall => by
      obtain ⟨c, hc, hnamed, hout⟩ := hbad
      have hin : 1 ≤ c ∧ c ≤ 21 := (sourcesOfMask_all_isSource _).mp hall c hc hnamed
      omega
    rw [exec_clearExtrema_of_takes ht hk (by simp [hp]), judgeClearExtrema_of_not_sources hp hs]

end Sys2Proof.Machine
end

section
/-! SUPPORT. FAULT_READ (R85): the bytes of a fault entry, the page the reply returns, and what the row does with a
frame it takes. -/

namespace Sys2Proof.Machine

/-- R175, R176: a command row with a frame of its own at the front, of a length the command has. -/
theorem State.onNode_command_of_takes {s : State} {f : Frame} {rest : List Frame} (ht : s.Takes f rest)
    {isRow : Frame → Bool} (hr : isRow f = true) {fits : List Byte → Bool} (hf : fits f.payload = true)
    (judge : Frame → Node → Node) :
    s.onNode (Node.command isRow fits judge) = s.ends (judge f (s.left rest)) := by
  rw [State.onNode_eq, Node.command_of_takes ht hr, if_pos hf, State.ends]

theorem isKind_of_kind {f : Frame} {k : Byte} (h : f.kind = k) : isKind k f = true := by
  simp [isKind, h]

theorem put1_natCast (v : Nat) : put1 v = [BitVec.ofNat 8 v] := by
  simp [put1]

theorem put1_toNat (b : Byte) : put1 b.toNat = [b] := by
  simp [put1_natCast]

/-- R185: the flags of an entry, as the sum of its two bits. -/
theorem faultFlags_eq (active hasValue : Bool) :
    flagBit 0 (!active) ||| flagBit 1 hasValue
      = BitVec.ofNat 8 ((if active = true then 0 else 1) + 2 * hasValue.toNat) := by
  revert active hasValue
  decide

/-- R185: the bytes of an entry are its report. -/
theorem FaultEntry.bytes_eq (e : FaultEntry) : e.bytes = entryReport e := by
  simp only [FaultEntry.bytes, entryReport, put1_natCast, faultFlags_eq, List.append_assoc, List.cons_append,
    List.nil_append]

/-- R85: how many entries are returned. -/
theorem FaultTable.page_length (t : FaultTable) (start most : Nat) :
    (t.page start most).length = min (min most 7) (t.entries.length - start) := by
  simp only [FaultTable.page, List.length_take, List.length_drop]

/-- R85: the page is as long as the number returned says. -/
theorem FaultTable.page_eq_take (t : FaultTable) (start most : Nat) :
    t.page start most = (t.entries.drop start).take (min (min most 7) (t.entries.length - start)) := by
  rw [FaultTable.page, ← List.length_drop, ← List.take_eq_take_min]

/-- R85: the data of the reply. -/
theorem FaultTable.readBytes_eq (t : FaultTable) (start : Byte) (most : Nat) :
    t.readBytes start.toNat most
      = [start] ++ put1 t.entries.length ++ put1 (t.entries.countP fun e => e.active) ++ put1 t.evictions
        ++ put1 ↑(min (min most 7) (t.entries.length - start.toNat))
        ++ ((t.entries.drop start.toNat).take
              (min (min most 7) (t.entries.length - start.toNat))).flatMap entryReport := by
  have hbytes : FaultEntry.bytes = entryReport := funext FaultEntry.bytes_eq
  rw [FaultTable.readBytes, put1_toNat, FaultTable.activeCount, FaultTable.page_length, FaultTable.page_eq_take, hbytes]

/-- R85: what the row judges, by the ranges of its two operands. -/
theorem judgeFaultRead_eq {n : Node} {f : Frame} {tag start most : Byte} (hp : f.payload = [tag, start, most]) :
    n.judgeFaultRead f = if 31 < start.toNat ∨ most.toNat = 0 ∨ 32 < most.toNat then n.answer f .invalid []
      else n.answer f .ok (n.ft.readBytes start.toNat most.toNat) := by
  simp only [Node.judgeFaultRead, Frame.body, hp, List.tail_cons]

/-- R85, R176: the row FAULT_READ with a frame of its kind and length at the front. -/
theorem exec_faultRead_of_takes {s : State} {f : Frame} {rest : List Frame} (ht : s.Takes f rest)
    (hk : f.kind = 0x40) (hl : f.payload.length = 3) :
    exec .faultRead s = s.ends ((s.left rest).judgeFaultRead f) :=
  State.onNode_command_of_takes ht (isKind_of_kind hk) (by simp [lengthIs, hl]) _

/-- Settles O25: the operands are either in range, and the row answers the page, or one is not, and it refuses. -/
theorem faultReadReportsEntriesInOrder : Obligations.FaultReadReportsEntriesInOrder := by
  intro s f rest tag start most ht hk hp
  have hexec := exec_faultRead_of_takes ht hk (by simp [hp])
  refine ⟨fun hstart hleast hmost => ?reported, fun hout => ?refused⟩
  case reported =>
    have hin : ¬(31 < start.toNat ∨ most.toNat = 0 ∨ 32 < most.toNat) := by omega
    rw [hexec, judgeFaultRead_eq hp, if_neg hin, Node.left_ft, FaultTable.readBytes_eq]
  case refused =>
    rw [hexec, judgeFaultRead_eq hp, if_pos hout]

end Sys2Proof.Machine
end

section
/-! SUPPORT. FAULT_ACK and FAULT_ACK_CLEARED (R87, R89): the codes of the kinds, the one entry a pair can have, and what
the rows do with a frame they take. -/

namespace Sys2Proof.Machine

/-- R79: a code names the kind that has it. -/
theorem FaultKind.ofCode_code (k : FaultKind) : FaultKind.ofCode k.code = some k := by
  cases k <;> rfl

/-- R79: the codes outside 1 to 14 name no kind. -/
theorem FaultKind.ofCode_of_outside {c : Nat} (h : c = 0 ∨ 14 < c) : FaultKind.ofCode c = none := by
  obtain rfl | habove := h
  · rfl
  · obtain ⟨d, rfl⟩ := Nat.exists_eq_add_of_lt habove
    rw [show 14 + d + 1 = d + 15 by omega]
    rfl

/-- R79: each code from 1 to 14 is some kind's. -/
theorem FaultKind.exists_code {c : Nat} (hlow : 1 ≤ c) (hhigh : c ≤ 14) : ∃ k : FaultKind, k.code = c := by
  have hall : ∀ c ∈ Finset.Icc 1 14, (FaultKind.ofCode c).any (fun k => k.code == c) = true := by decide
  have hc := hall c (Finset.mem_Icc.mpr ⟨hlow, hhigh⟩)
  simp only [Option.any_eq_true, beq_iff_eq] at hc
  obtain ⟨k, -, hk⟩ := hc
  exact ⟨k, hk⟩

/-- R79: two kinds with one code are one kind. -/
theorem FaultKind.code_injective : Function.Injective FaultKind.code := fun k l h =>
  Option.some_injective _ (by rw [← ofCode_code k, ← ofCode_code l, h])

/-- R80: no pair stands twice in the table. -/
theorem Node.FaultTableLaw.nodup_pairs {n : Node} (hlaw : n.FaultTableLaw) :
    (n.ft.entries.map fun e => (e.kind, e.source)).Nodup := by
  obtain ⟨-, hnodup, -⟩ := hlaw
  exact hnodup

/-- R80: two entries of one pair are one entry. -/
theorem Node.FaultTableLaw.eq_of_pair {n : Node} (hlaw : n.FaultTableLaw) {e x : FaultEntry}
    (he : e ∈ n.ft.entries) (hx : x ∈ n.ft.entries) (hkind : x.kind = e.kind) (hsrc : x.source = e.source) : x = e :=
  List.inj_on_of_nodup_map hlaw.nodup_pairs hx he (by rw [hkind, hsrc])

/-- R80: an entry is found by its pair. -/
theorem Node.FaultTableLaw.find_eq_some {n : Node} (hlaw : n.FaultTableLaw) {e : FaultEntry}
    (he : e ∈ n.ft.entries) : n.ft.find e.kind e.source = some e := by
  cases hfind : n.ft.find e.kind e.source with
  | none => simpa using List.find?_eq_none.mp hfind e he
  | some x =>
    have hpair := List.find?_some hfind
    simp only [Bool.and_eq_true, beq_iff_eq] at hpair
    obtain ⟨hkind, hsrc⟩ := hpair
    rw [hlaw.eq_of_pair he (List.mem_of_find?_eq_some hfind) hkind hsrc]

/-- A pair that no entry has is not found. -/
theorem FaultTable.find_eq_none {t : FaultTable} {k : FaultKind} {src : Nat}
    (h : ∀ e ∈ t.entries, ¬(e.kind = k ∧ e.source = src)) : t.find k src = none :=
  List.find?_eq_none.mpr fun e he => by simpa using h e he

/-- R80, R87: to remove a pair is to erase its entry. -/
theorem Node.FaultTableLaw.remove_eq_erase {n : Node} (hlaw : n.FaultTableLaw) {e : FaultEntry}
    (he : e ∈ n.ft.entries) :
    n.ft.remove e.kind e.source = { n.ft with entries := n.ft.entries.erase e } := by
  have hnodup : n.ft.entries.Nodup := hlaw.nodup_pairs.of_map _
  have hkept : ∀ x ∈ n.ft.entries, (!(x.kind == e.kind && x.source == e.source)) = (x != e) := fun x hx => by
    have hiff : x.kind = e.kind ∧ x.source = e.source ↔ x = e :=
      ⟨fun h => hlaw.eq_of_pair he hx h.1 h.2, fun h => by simp [h]⟩
    have hbeq : (x.kind == e.kind && x.source == e.source) = (x == e) := by
      rw [Bool.eq_iff_iff]
      simpa using hiff
    rw [hbeq, bne]
  rw [FaultTable.remove, hnodup.erase_eq_filter, List.filter_congr hkept]

/-- R87: a kind outside 1 to 14 or a count seen of 0 is refused. -/
theorem judgeFaultAck_of_outside {n : Node} {f : Frame} {tag k src seen : Byte} (hp : f.payload = [tag, k, src, seen])
    (h : k.toNat = 0 ∨ 14 < k.toNat ∨ seen = 0) : n.judgeFaultAck f = n.answer f .invalid [] := by
  simp only [Node.judgeFaultAck, Frame.body, hp, List.tail_cons]
  cases hcode : FaultKind.ofCode k.toNat with
  | none => rfl
  | some kind =>
    have hseen : seen = 0 := by
      by_contra hne
      have hout : k.toNat = 0 ∨ 14 < k.toNat := by tauto
      rw [FaultKind.ofCode_of_outside hout] at hcode
      exact Option.some_ne_none _ hcode.symm
    simp [hseen]

/-- R87: any other frame acknowledges the pair. -/
theorem judgeFaultAck_of_kind {n : Node} {f : Frame} {tag k src seen : Byte} (hp : f.payload = [tag, k, src, seen])
    {kind : FaultKind} (hkind : kind.code = k.toNat) (hseen : seen ≠ 0) :
    n.judgeFaultAck f = n.acknowledge f kind src.toNat seen.toNat := by
  have hcount : seen.toNat ≠ 0 := fun h => hseen (BitVec.eq_of_toNat_eq h)
  simp only [Node.judgeFaultAck, Frame.body, hp, List.tail_cons, ← hkind, FaultKind.ofCode_code, if_neg hcount]

/-- R87: no entry of the pair. -/
theorem acknowledge_of_none {n : Node} {k : FaultKind} {src : Nat} (h : n.ft.find k src = none) (f : Frame)
    (seen : Nat) : n.acknowledge f k src seen = n.answer f .notFound [] := by
  simp only [Node.acknowledge, h]

/-- R87: an entry of the pair, by its state and its count. -/
theorem acknowledge_of_some {n : Node} {k : FaultKind} {src : Nat} {e : FaultEntry} (h : n.ft.find k src = some e)
    (f : Frame) (seen : Nat) :
    n.acknowledge f k src seen = if e.active then n.answer f .stillActive (put1 e.count)
      else if e.count = seen then (n.withFt (n.ft.remove k src)).answer f .ok []
      else n.answer f .stale (put1 e.count) := by
  simp only [Node.acknowledge, h]

/-- R87, R176: the row FAULT_ACK with a frame of its kind and length at the front. -/
theorem exec_faultAck_of_takes {s : State} {f : Frame} {rest : List Frame} (ht : s.Takes f rest)
    (hk : f.kind = 0x41) (hl : f.payload.length = 4) :
    exec .faultAck s = s.ends ((s.left rest).judgeFaultAck f) :=
  State.onNode_command_of_takes ht (isKind_of_kind hk) (by simp [lengthIs, hl]) _

/-- R89, R176: the row FAULT_ACK_CLEARED with a frame of its kind and length at the front. -/
theorem exec_faultAckCleared_of_takes {s : State} {f : Frame} {rest : List Frame} (ht : s.Takes f rest)
    (hk : f.kind = 0x42) (hl : f.payload.length = 1) :
    exec .faultAckCleared s
      = s.ends (((s.left rest).withFt s.ft.dropCleared).answer f .ok (put1 s.ft.clearedCount)) :=
  State.onNode_command_of_takes ht (isKind_of_kind hk) (by simp [lengthIs, hl]) _

/-- Settles O26: FAULT_ACK refuses its operands or acknowledges a pair, whose one entry (R80) decides the answer;
FAULT_ACK_CLEARED keeps the ACTIVE entries. -/
theorem acknowledgementsRemoveClearedEntries : Obligations.AcknowledgementsRemoveClearedEntries := by
  intro s f rest tag k src seen hlaw ht
  refine ⟨fun hk hp => ⟨fun hout => ?refused, fun hlow hhigh hseen => ?acknowledged⟩, fun hk hp => ?allCleared⟩
  case refused =>
    rw [exec_faultAck_of_takes ht hk (by simp [hp]), judgeFaultAck_of_outside hp hout]
  case acknowledged =>
    obtain ⟨kind, hkind⟩ := FaultKind.exists_code hlow hhigh
    have hexec : exec .faultAck s = s.ends ((s.left rest).acknowledge f kind src.toNat seen.toNat) := by
      rw [exec_faultAck_of_takes ht hk (by simp [hp]), judgeFaultAck_of_kind hp hkind hseen]
    refine ⟨fun hnone => ?noEntry, fun e he hpair => ?entry⟩
    case noEntry =>
      have hfind : (s.left rest).ft.find kind src.toNat = none :=
        FaultTable.find_eq_none fun e he h => hnone e he ⟨by rw [h.1, hkind], h.2⟩
      rw [hexec, acknowledge_of_none hfind]
    case entry =>
      obtain ⟨hcode, hsrc⟩ := hpair
      obtain rfl : e.kind = kind := FaultKind.code_injective (hcode.trans hkind.symm)
      have hfind : (s.left rest).ft.find e.kind e.source = some e := hlaw.find_eq_some he
      rw [← hsrc, acknowledge_of_some hfind, Node.left_ft, hlaw.remove_eq_erase he] at hexec
      refine ⟨fun hactive => ?_, fun hcleared hcount => ?_, fun hcleared hcount => ?_⟩
      · rw [hexec, if_pos hactive]
      · rw [hexec, if_neg (by simp [hcleared]), if_neg hcount]
      · rw [hexec, if_neg (by simp [hcleared]), if_pos hcount]
  case allCleared =>
    rw [exec_faultAckCleared_of_takes ht hk (by simp [hp]), FaultTable.dropCleared, FaultTable.clearedCount]

end Sys2Proof.Machine
end

section
/-! SUPPORT. EQ_STOP and EQ_RESUME (R112, R114): a channel with its switch cut, the Equalizer stopped and resumed, and
what the rows do with a frame they take. -/

namespace Sys2Proof.Machine

/-- R104, R112: a switch cut is open and hands nothing on; it opened at the moment `t` only if it was closed. -/
theorem Channel.cut_eq (t : Nat) (c : Channel) :
    c.cut t = { c with
      closed := false
      openSince := if c.closed = true then t else c.openSince
      kept := false } := by
  cases hclosed : c.closed <;> simp [Channel.cut, Channel.openAt, hclosed]

/-- R112: the stopped Equalizer, channel by channel. -/
theorem Equalizer.stop_eq (e : Equalizer) (t : Nat) :
    e.stop t = { e with
      st := if e.st = .running then .idle else e.st
      channels := e.channels.map fun c => { c with
        budget := 0
        staged := none
        closed := false
        openSince := if c.closed = true then t else c.openSince
        kept := false } } := by
  simp only [Equalizer.stop, Equalizer.cutAll, Equalizer.mapChannels, List.map_map, Function.comp_def, Channel.cut_eq]

/-- R114: some budget is above 0. -/
theorem Equalizer.owes_iff (e : Equalizer) : e.owes = true ↔ ∃ c ∈ e.channels, 0 < c.budget := by
  simp [Equalizer.owes]

/-- R114: SAFE_STOP is left for RUNNING when a budget is left. -/
theorem Equalizer.resume_of_owes {e : Equalizer} (hst : e.st = .safeStop) (howes : e.owes = true) :
    e.resume = { e with st := .running } := by
  simp only [Equalizer.resume, if_pos hst, if_pos howes]

/-- R114: SAFE_STOP is left for IDLE when no budget is left. -/
theorem Equalizer.resume_of_not_owes {e : Equalizer} (hst : e.st = .safeStop) (howes : ¬e.owes = true) :
    e.resume = { e with st := .idle } := by
  simp only [Equalizer.resume, if_pos hst, if_neg howes]

/-- R114: in every other state nothing changes. -/
theorem Equalizer.resume_of_ne {e : Equalizer} (hst : e.st ≠ .safeStop) : e.resume = e := by
  simp only [Equalizer.resume, if_neg hst]

theorem Node.withEq_self (n : Node) : n.withEq n.eq = n := rfl

/-- R112, R176: the row EQ_STOP with a frame of its kind and length at the front. -/
theorem exec_eqStop_of_takes {s : State} {f : Frame} {rest : List Frame} (ht : s.Takes f rest)
    (hk : f.kind = 0x51) (hl : f.payload.length = 1) :
    exec .eqStop s = s.ends (((s.left rest).withEq (s.eq.stop s.now)).answer f .ok []) :=
  State.onNode_command_of_takes ht (isKind_of_kind hk) (by simp [lengthIs, hl]) _

/-- R114, R176: the row EQ_RESUME with a frame of its kind and length at the front. -/
theorem exec_eqResume_of_takes {s : State} {f : Frame} {rest : List Frame} (ht : s.Takes f rest)
    (hk : f.kind = 0x52) (hl : f.payload.length = 1) :
    exec .eqResume s = s.ends (((s.left rest).withEq s.eq.resume).answer f .ok []) :=
  State.onNode_command_of_takes ht (isKind_of_kind hk) (by simp [lengthIs, hl]) _

/-- Settles O28: EQ_STOP stops the Equalizer; EQ_RESUME finds it in SAFE_STOP with or without a budget left, or in
another state, where it leaves the node as it took it. -/
theorem eqStopAndEqResume : Obligations.EqStopAndEqResume := by
  intro s f rest ht hl
  refine ⟨fun hk => ?stopped, fun hk hst hbudget => ?toRunning, fun hk hst hnone => ?toIdle, fun hk hst => ?kept⟩
  case stopped =>
    rw [exec_eqStop_of_takes ht hk hl, Equalizer.stop_eq]
  case toRunning =>
    have howes : s.eq.owes = true := s.eq.owes_iff.mpr hbudget
    rw [exec_eqResume_of_takes ht hk hl, Equalizer.resume_of_owes hst howes]
  case toIdle =>
    have howes : ¬s.eq.owes = true := fun h => by
      obtain ⟨c, hc, hpos⟩ := s.eq.owes_iff.mp h
      exact hpos.ne' (hnone c hc)
    rw [exec_eqResume_of_takes ht hk hl, Equalizer.resume_of_not_owes hst howes]
  case kept =>
    rw [exec_eqResume_of_takes ht hk hl, Equalizer.resume_of_ne hst, ← Node.left_eq s.toNode rest, Node.withEq_self]

end Sys2Proof.Machine
end

section
/-! SUPPORT. What a step can do, said once: every row either leaves the node as it is (log entry 2) or is one of the
events below, and every event ends in `finish` (log entry 9). The invariants are proved event by event. -/

namespace Sys2Proof.Machine

namespace Node

/-- What a command taken from the frame `f` can make of the node `n` that the frame has left. -/
inductive Taken (f : Frame) (n : Node) : Node → Prop
  | answered (st : Status) (data : List Byte) : Taken f n (n.answer f st data)
  | unanswered : Taken f n n
  | assigned (a : Nat) : Taken f n ((n.withLi { n.li with address := a }).answer f .ok [])
  | countersCleared (data : List Byte) :
    Taken f n ((n.answer f .ok data).withLi (n.answer f .ok data).li.clearCounters)
  | nodeReset : Taken f n (n.softReset.answer f .ok [])
  | populationSet (v : Nat) (hv : 4 ≤ v ∧ v ≤ 14) (h : n.populationAllowed v = true) :
    Taken f n ((n.changePopulation v).answer f .ok [])
  | settingsSet (c : Settings) (h : n.cfg.Legal → c.Legal) : Taken f n ((n.withCfg c).answer f .ok [])
  | silenceSet (v : Nat) (hv : v ≤ 255) :
    Taken f n ((n.withCfg { n.cfg with silenceTimeout := v }).silenceRestart.answer f .ok [])
  | alertsOff : Taken f n (((n.withCfg { n.cfg with alertEnable := false }).withCh
      { n.ch with reasons := AlertReasons.none }).answer f .ok [])
  | limitsSet (srcs : List Nat) (cfg : Nat → LimitCfg) :
    Taken f n ((n.withLm (n.lm.write srcs cfg)).answer f .ok [])
  | saveBegun (h : n.ss.saving = none) : Taken f n (n.beginSave f)
  | defaultsRestored (h : n.defaultsAllowed = true) : Taken f n (n.restoreDefaults.answer f .ok [])
  | planStaged (p : Option Plan) : Taken f n ((n.withSeq { n.seq with staged := p }).answer f .ok [])
  | scanStarted (hst : n.seq.st = .stopped) (hmu : n.mu.inFlight = false) :
    Taken f n ((n.passStart true).answer f .ok [])
  | scanStopped : Taken f n (n.seqStop.answer f .ok [])
  | passDoneTaken (data : List Byte) : Taken f n ((n.answer f .ok data).withSeq { n.seq with passDone := false })
  | extremaCleared (srcs : List Nat) : Taken f n ((n.withRt (clearExtremaOf srcs n.rt)).answer f .ok [])
  | acknowledged (k : FaultKind) (src : Nat) (e : FaultEntry) (he : n.ft.find k src = some e)
    (hactive : e.active = false) : Taken f n ((n.withFt (n.ft.remove k src)).answer f .ok [])
  | clearedDropped (data : List Byte) : Taken f n ((n.withFt n.ft.dropCleared).answer f .ok data)
  | eqStaged (entries : List EqEntry) (h : ∀ e ∈ entries, e.allowed n.cfg.population = true) :
    Taken f n ((n.withEq (n.eq.stage entries)).answer f .ok [])
  | eqStopped : Taken f n ((n.withEq (n.eq.stop n.now)).answer f .ok [])
  | eqResumed : Taken f n ((n.withEq n.eq.resume).answer f .ok [])
  | doneEmptied (data : List Byte) : Taken f n ((n.answer f .ok data).withEq n.eq.emptyDone)
  | operationAccepted (b : OpBody) (h : n.maintBusy = false) : Taken f n (n.acceptOperation f b)
  | operationAborted (o : Operation) (h : n.mu.op = some o) : Taken f n ((n.answer f .ok []).abortOperation o)
  | standbyEntered (hmu : n.mu.inFlight = false) (hw : n.pc.watchPass = none) :
    Taken f n ((n.answer f .ok []).enterStandby)

/-- What a symbol noted on lane `k` can make of the node. -/
inductive Heard (k : Lane) (n : Node) : Node → Prop
  | ignored : Heard k n n
  | taken (rx : Receiver) : Heard k n (n.setReceiver k rx)
  | abandoned (rx : Receiver) (count : LaneCounters → LaneCounters) : Heard k n (n.abandon k rx count)
  | northbound (f : Frame) (hk : k = .rxS) : Heard k n ((n.setReceiver .rxS .hunt).northbound f)
  | southbound (f : Frame) (hk : k = .rxN) : Heard k n ((n.setReceiver .rxN .hunt).southbound f)

/-- What the expiry at the moment `t` of a timer armed in `n` can make of the node `m`, which is `n` at that moment. -/
inductive Expired (n : Node) (t : Nat) (m : Node) : Node → Prop
  | driveReleased (h : n.pc.phase = .breakDrive t) : Expired n t m m.beginStartUp
  | driveEnded (h : n.pc.phase = .breakDrive t) : Expired n t m (m.withPc { m.pc with phase := .breakWait })
  | loaded (h : n.pc.phase = .loading t) : Expired n t m m.startUpComplete
  | settled (h : n.cu.st = .powering t) : Expired n t m m.enterIdle
  | recovered (h : n.cu.st = .recovering t) : Expired n t m m.enterIdle
  | converted (c : Conversion) (reading : Int) (h : n.cu.st = .converting c) (ht : c.endsAt = t) :
    Expired n t m (m.conversionEnds.deliver (c.sample reading))
  | passDue (h : n.seq.st = .passGap) (hmu : n.mu.inFlight = false) : Expired n t m (m.passStart false)
  | passDeferred (h : n.seq.st = .passGap) (hmu : n.mu.inFlight = true) :
    Expired n t m (m.withSeq { m.seq with st := .deferred })
  | quietGranted (who : Client) (r : QuietReq) (h : n.eq.quiet.get who = some r) (ht : r.grantAt = t) :
    Expired n t m ((m.withEq { m.eq with
      quiet := m.eq.quiet.set who (some { r with granted := true }) }).actOnGrant who)
  | slotEnded (h : n.eq.slotEnd = some t) : Expired n t m (m.slotBoundary t)
  | injected (h : n.mu.st = .injectSettle t) : Expired n t m m.injectSettled
  | silent (h : n.li.silence = some t) : Expired n t m m.linkSilence
  | saved (v : Saving) (h : n.ss.saving = some v) : Expired n t m (m.saveEnd v)
  | watchBegun (h : n.pc.watchTimer = some t) : Expired n t m m.watchPassStart
  | alertHeld : Expired n t m m
  | northSent : Expired n t m m.northSent
  | southSent (who : Sender) : Expired n t m (m.southSent who)
  | gap (k : Lane) (count : LaneCounters → LaneCounters) : Expired n t m (m.abandon k .hunt count)

/-- What an event can make of the node before its end. -/
inductive Event (n : Node) : Node → Prop
  | supplied (dt : Nat) : Event n (n.elapse dt).powerOnReset
  | broken (dt : Nat) : Event n (n.elapse dt).breakReset
  | released (dt : Nat) (h : n.pc.phase = .breakWait) : Event n (n.elapse dt).beginStartUp
  | unsupplied (dt : Nat) : Event n (n.elapse dt).supplyLost
  | expiry {m : Node} (t : Nat) (hdue : n.Due t) (h : n.Expired t (n.withNow t) m) : Event n m
  | symbol {m : Node} (dt : Nat) (k : Lane) (y : LineSymbol) (h : ((n.elapse dt).noteSymbol k y).Heard k m) : Event n m
  | command {m : Node} (f : Frame) (rest : List Frame) (ht : n.Takes f rest) (h : (n.left rest).Taken f m) : Event n m

/-- A row leaves the node as it is, or is an event with the end every event has. -/
def Eventful (row : Node → Node) : Prop := ∀ n : Node, row n = n ∨ ∃ m, n.Event m ∧ row n = m.finish

/-! ### The shapes of a row -/

theorem command_eventful (isRow : Frame → Bool) (fits : List Byte → Bool) {judge : Frame → Node → Node}
    (h : ∀ f (n : Node), n.Taken f (judge f n)) : Eventful (Node.command isRow fits judge) := fun n => by
  rcases command_cases n isRow fits judge with hsame | ⟨f, rest, ht, -, heq⟩
  · exact .inl hsame
  · refine .inr ⟨_, .command f rest ht ?_, heq⟩
    split
    · exact h f _
    · exact .answered _ _

theorem timed_event {n : Node} {t? : Option Nat} {act : Nat → Node → Node}
    (h : ∀ t, t? = some t → n.Expired t (n.withNow t) (act t (n.withNow t))) :
    n.timed t? act = n ∨ ∃ m, n.Event m ∧ n.timed t? act = m.finish := by
  rcases timed_cases n t? act with hsame | ⟨t, ht, hdue, heq⟩
  · exact .inl hsame
  · exact .inr ⟨_, .expiry t hdue (h t ht), heq⟩

theorem laneRow_eventful (dt : Nat) (k : Lane) (y : LineSymbol) {row : SymbolEvent → Option (Node → Node)}
    (h : ∀ e act, row e = some act → ∀ n : Node, n.Heard k (act n)) : Eventful (Node.laneRow dt k y row) := fun n => by
  rcases laneRow_cases n dt k y row with hsame | ⟨act, -, -, hact, heq⟩
  · exact .inl hsame
  · exact .inr ⟨_, .symbol dt k y (h _ _ hact _), heq⟩

/-! ### The judgements of the commands -/

theorem taken_judgeAssign (f : Frame) (n : Node) : n.Taken f (n.judgeAssign f) := by
  unfold judgeAssign
  dsimp only
  split
  · exact .answered _ _
  · split
    · exact .answered _ _
    · split
      · exact .unanswered
      · exact .assigned _

theorem taken_judgeReadLinkCounters (f : Frame) (n : Node) : n.Taken f (n.judgeReadLinkCounters f) := by
  unfold judgeReadLinkCounters
  dsimp only
  split
  · split
    · exact .countersCleared _
    · exact .answered _ _
  · exact .answered _ _

/-- R187: a CONFIG_WRITE whose value is taken has its item's effect; every other one is only answered. -/
theorem taken_judgeConfig {α : Type} {value : Nat → List Byte → Option α}
    {effect : Nat → α → Node → Option (Node × Status)}
    (h : ∀ f n i bytes v m st, value i bytes = some v → effect i v n = some (m, st) → n.Taken f (m.answer f st []))
    (f : Frame) (n : Node) : n.Taken f (Node.judgeConfig value effect f n) := by
  unfold judgeConfig
  split
  · exact .answered _ _
  · split
    · split
      · exact .answered _ _
      · rename_i v hv
        split
        · exact .answered _ _
        · rename_i m st hm
          exact h _ _ _ _ _ _ _ hv hm
    · exact .answered _ _

theorem configWrite_eventful {α : Type} (lo hi : Nat) {value : Nat → List Byte → Option α}
    {effect : Nat → α → Node → Option (Node × Status)}
    (h : ∀ f n i bytes v m st, value i bytes = some v → effect i v n = some (m, st) → n.Taken f (m.answer f st [])) :
    Eventful (Node.configWrite lo hi value effect) :=
  command_eventful _ _ (taken_judgeConfig h)

theorem taken_writePopulation (f : Frame) (n : Node) (i v : Nat) (m : Node) (st : Status)
    (h : Node.writePopulation i v n = some (m, st)) : n.Taken f (m.answer f st []) := by
  unfold writePopulation at h
  split at h
  · rename_i hv
    split at h
    · cases h; exact .answered _ _
    · split at h
      · rename_i hallowed
        cases h; exact .populationSet v hv hallowed
      · cases h; exact .answered _ _
  · cases h

/-- R187: a plain item keeps the settings legal when each value it takes does. -/
theorem taken_plainItem {ok : Nat → Bool} {set : Settings → Nat → Settings} (f : Frame) (n : Node) (i v : Nat) (m : Node)
    (st : Status) (hset : ok v = true → n.cfg.Legal → (set n.cfg v).Legal)
    (h : plainItem ok set i v n = some (m, st)) : n.Taken f (m.answer f st []) := by
  unfold plainItem at h
  split at h
  · rename_i hok
    cases h; exact .settingsSet _ (hset hok)
  · cases h

/-- R187: roles have no illegal value. -/
theorem legal_setRole {c : Settings} (h : c.Legal) (j : Nat) (r : AuxRole) : (c.setRole j r).Legal := by
  unfold Settings.setRole
  split <;> exact h

/-- R51: a legal list keeps the settings legal. -/
theorem legal_setList {c : Settings} (h : c.Legal) (j : Nat) {l : List Nat} (hl : listLegal l) :
    (c.setList j l).Legal := by
  obtain ⟨hpop, hsum, hquiet, hframe, hsilence, hholdoff, hwatch, hline, h0, h1, h2, h3⟩ := h
  unfold Settings.setList
  split
  · exact ⟨hpop, hsum, hquiet, hframe, hsilence, hholdoff, hwatch, hline, hl, h1, h2, h3⟩
  · exact ⟨hpop, hsum, hquiet, hframe, hsilence, hholdoff, hwatch, hline, h0, hl, h2, h3⟩
  · exact ⟨hpop, hsum, hquiet, hframe, hsilence, hholdoff, hwatch, hline, h0, h1, hl, h3⟩
  · exact ⟨hpop, hsum, hquiet, hframe, hsilence, hholdoff, hwatch, hline, h0, h1, h2, hl⟩
  · exact ⟨hpop, hsum, hquiet, hframe, hsilence, hholdoff, hwatch, hline, h0, h1, h2, h3⟩

theorem taken_writeAuxRole (f : Frame) (n : Node) (i v : Nat) (m : Node) (st : Status)
    (h : Node.writeAuxRole i v n = some (m, st)) : n.Taken f (m.answer f st []) := by
  simp only [writeAuxRole, Option.map_eq_some_iff, Prod.mk.injEq] at h
  obtain ⟨r, -, rfl, rfl⟩ := h
  exact .settingsSet _ fun hc => legal_setRole hc _ _

theorem oneByte_le {i v : Nat} {bytes : List Byte} (h : oneByte i bytes = some v) : v ≤ 255 := by
  unfold oneByte at h
  split at h
  · rename_i b
    cases h
    have := b.isLt
    omega
  · cases h

theorem twoBytes_le {i v : Nat} {bytes : List Byte} (h : twoBytes i bytes = some v) : v ≤ 65535 := by
  unfold twoBytes at h
  split at h
  · rename_i b1 b0
    cases h
    have h1 := b1.isLt
    have h0 := b0.isLt
    unfold read2
    omega
  · cases h

theorem taken_writeSilenceTimeout (f : Frame) (n : Node) (i v : Nat) (m : Node) (st : Status) (hv : v ≤ 255)
    (h : Node.writeSilenceTimeout i v n = some (m, st)) : n.Taken f (m.answer f st []) := by
  cases h
  exact .silenceSet v hv

theorem taken_writeAlertEnable (f : Frame) (n : Node) (i v : Nat) (m : Node) (st : Status)
    (h : Node.writeAlertEnable i v n = some (m, st)) : n.Taken f (m.answer f st []) := by
  unfold writeAlertEnable at h
  split at h
  · cases h; exact .alertsOff
  · cases h; exact .settingsSet { n.cfg with alertEnable := true } id
  · cases h

/-- R51: `noRepeat` says that no code appears twice. -/
theorem noRepeat_iff (l : List Nat) : noRepeat l = true ↔ l.Nodup := by
  induction l with
  | nil => simp [noRepeat]
  | cons x l ih => simp [noRepeat, ih]

theorem taken_writeReportList (f : Frame) (n : Node) (i : Nat) (bytes : List Byte) (v : Nat × List Nat) (m : Node)
    (st : Status) (hv : reportValue i bytes = some v) (h : Node.writeReportList i v n = some (m, st)) :
    n.Taken f (m.answer f st []) := by
  have hlen : v.2.length ≤ 21 := by
    unfold reportValue at hv
    split at hv
    · cases hv
    · split at hv
      · cases hv; simpa
      · cases hv
  unfold writeReportList at h
  split at h
  · rename_i hok
    obtain ⟨-, hall, hnodup⟩ := hok
    cases h
    exact .settingsSet _ fun hc => legal_setList hc _
      ⟨hlen, (noRepeat_iff _).mp hnodup, fun c hc => List.all_eq_true.mp hall c hc⟩
  · cases h

theorem taken_judgeConfigRead (f : Frame) (n : Node) : n.Taken f (n.judgeConfigRead f) := by
  unfold judgeConfigRead
  (repeat' split) <;> exact .answered _ _

theorem taken_judgeLimitWrite (f : Frame) (n : Node) : n.Taken f (n.judgeLimitWrite f) := by
  unfold judgeLimitWrite
  split
  · exact .answered _ _
  · split
    · exact .limitsSet _ _
    · exact .answered _ _

theorem taken_judgeLimitRead (f : Frame) (n : Node) : n.Taken f (n.judgeLimitRead f) := by
  unfold judgeLimitRead
  dsimp only
  (repeat' split) <;> exact .answered _ _

theorem taken_judgeStoreSave (f : Frame) (n : Node) : n.Taken f (n.judgeStoreSave f) := by
  unfold judgeStoreSave
  split
  · exact .answered _ _
  · rename_i h
    exact .saveBegun (by simpa using h)

theorem taken_judgeStoreDefaults (f : Frame) (n : Node) : n.Taken f (n.judgeStoreDefaults f) := by
  unfold judgeStoreDefaults
  split
  · rename_i h
    exact .defaultsRestored h
  · exact .answered _ _

theorem taken_judgePlanWrite (f : Frame) (n : Node) : n.Taken f (n.judgePlanWrite f) := by
  unfold judgePlanWrite
  split
  · split
    · exact .planStaged _
    · split
      · exact .answered _ _
      · exact .planStaged _
  · exact .answered _ _

theorem taken_judgePlanRead (f : Frame) (n : Node) : n.Taken f (n.judgePlanRead f) := by
  unfold judgePlanRead
  dsimp only
  (repeat' split) <;> exact .answered _ _

theorem taken_judgeScanStart (f : Frame) (n : Node) : n.Taken f (n.judgeScanStart f) := by
  unfold judgeScanStart
  split
  · exact .answered _ _
  · rename_i h
    obtain ⟨hst, hmu⟩ := not_or.mp h
    split
    · exact .answered _ _
    · exact .scanStarted (not_not.mp hst) (by simpa using hmu)

theorem taken_judgeScanStatus (f : Frame) (n : Node) : n.Taken f (n.judgeScanStatus f) := by
  unfold judgeScanStatus
  dsimp only
  split
  · split
    · have hseq : (n.answer f .ok n.seq.statusBytes).seq = n.seq := by simp
      rw [hseq]
      exact .passDoneTaken _
    · exact .answered _ _
  · exact .answered _ _

theorem taken_judgeReadResults (f : Frame) (n : Node) : n.Taken f (n.judgeReadResults f) := by
  unfold judgeReadResults
  dsimp only
  (repeat' split) <;> exact .answered _ _

theorem taken_judgeReadReport (f : Frame) (n : Node) : n.Taken f (n.judgeReadReport f) := by
  unfold judgeReadReport
  dsimp only
  (repeat' split) <;> exact .answered _ _

theorem taken_judgeClearExtrema (f : Frame) (n : Node) : n.Taken f (n.judgeClearExtrema f) := by
  unfold judgeClearExtrema
  split
  · dsimp only
    split
    · exact .extremaCleared _
    · exact .answered _ _
  · exact .answered _ _

theorem taken_judgeFaultRead (f : Frame) (n : Node) : n.Taken f (n.judgeFaultRead f) := by
  unfold judgeFaultRead
  (repeat' split) <;> exact .answered _ _

theorem taken_acknowledge (f : Frame) (k : FaultKind) (src seen : Nat) (n : Node) :
    n.Taken f (n.acknowledge f k src seen) := by
  cases h : n.ft.find k src with
  | none => rw [acknowledge_of_none h]; exact .answered _ _
  | some e =>
    rw [acknowledge_of_some h]
    split
    · exact .answered _ _
    · rename_i hactive
      split
      · exact .acknowledged k src e h (by simpa using hactive)
      · exact .answered _ _

theorem taken_judgeFaultAck (f : Frame) (n : Node) : n.Taken f (n.judgeFaultAck f) := by
  unfold judgeFaultAck
  split
  · split
    · exact .answered _ _
    · split
      · exact .answered _ _
      · exact taken_acknowledge _ _ _ _ _
  · exact .answered _ _

theorem taken_judgeEqSet (f : Frame) (n : Node) : n.Taken f (n.judgeEqSet f) := by
  unfold judgeEqSet
  dsimp only
  split
  · rename_i h
    exact .eqStaged _ (List.all_eq_true.mp (Bool.and_eq_true_iff.mp h).1)
  · exact .answered _ _

theorem taken_judgeEqRead (f : Frame) (n : Node) : n.Taken f (n.judgeEqRead f) := by
  unfold judgeEqRead
  dsimp only
  split
  · have heq : ∀ data, (n.answer f .ok data).eq = n.eq := by simp
    rw [heq]
    exact .doneEmptied _
  · exact .answered _ _

theorem taken_judgeTrim (f : Frame) (n : Node) : n.Taken f (n.judgeTrim f) := by
  unfold judgeTrim
  dsimp only
  split
  · exact .answered _ _
  · split
    · exact .answered _ _
    · rename_i h
      exact .operationAccepted _ (by simpa using h)

theorem taken_judgeLineCheck (f : Frame) (n : Node) : n.Taken f (n.judgeLineCheck f) := by
  unfold judgeLineCheck
  split
  · exact .answered _ _
  · rename_i h
    exact .operationAccepted _ (by simpa using h)

theorem taken_judgeMaintAbort (f : Frame) (n : Node) : n.Taken f (n.judgeMaintAbort f) := by
  unfold judgeMaintAbort
  split
  · exact .answered _ _
  · rename_i o ho
    exact .operationAborted o ho

theorem taken_judgeStandby (f : Frame) (n : Node) : n.Taken f (n.judgeStandby f) := by
  unfold judgeStandby
  split
  · exact .answered _ _
  · rename_i h
    simp only [Bool.or_eq_true, not_or, Bool.not_eq_true, Option.isSome_eq_false_iff, Option.isNone_iff_eq_none] at h
    exact .standbyEntered h.1 h.2

/-! ### The rows of time and of the supply -/

theorem breakDetected_eventful (dt : Nat) : Eventful (Node.breakDetected dt) := fun n => by
  unfold breakDetected
  split
  · exact .inr ⟨_, .broken dt, rfl⟩
  · exact .inl rfl

theorem breakRelease_eventful (dt : Nat) : Eventful (Node.breakRelease dt) := fun n => by
  unfold breakRelease
  split
  · rename_i h
    exact .inr ⟨_, .released dt h, rfl⟩
  · exact .inl rfl

theorem powerLoss_eventful (dt : Nat) : Eventful (Node.powerLoss dt) := fun n => by
  unfold powerLoss
  split
  · exact .inl rfl
  · exact .inr ⟨_, .unsupplied dt, rfl⟩

theorem breakDriveEnd_eventful (high : Bool) : Eventful (Node.breakDriveEnd high) := fun n => by
  unfold breakDriveEnd
  split
  · rename_i t hphase
    refine timed_event fun u hu => ?_
    cases hu
    cases high
    · exact .driveEnded hphase
    · exact .driveReleased hphase
  all_goals exact .inl rfl

theorem loadEnd_eventful : Eventful Node.loadEnd := fun n => by
  unfold loadEnd
  split
  · rename_i t hphase
    exact timed_event fun u hu => by cases hu; exact .loaded hphase
  all_goals exact .inl rfl

theorem cuSettleExpiry_eventful : Eventful Node.cuSettleExpiry := fun n => by
  unfold cuSettleExpiry
  split
  · rename_i t hst
    exact timed_event fun u hu => by cases hu; exact .settled hst
  all_goals exact .inl rfl

theorem conversionComplete_eventful (reading : Int) : Eventful (Node.conversionComplete reading) := fun n => by
  unfold conversionComplete
  split
  · rename_i c hst
    exact timed_event fun u hu => by cases hu; exact .converted c reading hst rfl
  all_goals exact .inl rfl

theorem cuRecoveryExpiry_eventful : Eventful Node.cuRecoveryExpiry := fun n => by
  unfold cuRecoveryExpiry
  split
  · rename_i t hst
    exact timed_event fun u hu => by cases hu; exact .recovered hst
  all_goals exact .inl rfl

theorem passDueExpiry_eventful : Eventful Node.passDueExpiry := fun n =>
  timed_event fun t ht => by
    have hst : n.seq.st = .passGap := by
      by_contra hne
      simp [Sequencer.armedDue, hne] at ht
    cases hmu : n.mu.inFlight with
    | false =>
      rw [withNow_mu, hmu]
      exact .passDue hst hmu
    | true =>
      rw [withNow_mu, hmu]
      exact .passDeferred hst hmu

theorem quietGrant_eventful (who : Client) : Eventful (Node.quietGrant who) := fun n => by
  unfold quietGrant
  split
  · exact .inl rfl
  · rename_i r hr
    refine timed_event fun t ht => ?_
    have hgrant : r.grantAt = t := by
      unfold QuietReq.waitingUntil at ht
      split at ht <;> simp_all
    exact .quietGranted who r hr hgrant

theorem injectSettle_eventful : Eventful fun n => n.timed n.mu.st.expiry fun _ n => n.injectSettled := fun n =>
  timed_event fun t ht => by
    refine .injected ?_
    cases hst : n.mu.st with
    | injectSettle u =>
      rw [hst] at ht
      cases ht
      rfl
    | _ => simp [hst, MuState.expiry] at ht

theorem saveExpiry_eventful : Eventful Node.saveExpiry := fun n => by
  unfold saveExpiry
  split
  · exact .inl rfl
  · rename_i v hv
    exact timed_event fun t _ => .saved v hv

theorem txSExpiry_eventful : Eventful Node.txSExpiry := fun n => by
  unfold txSExpiry
  split
  · exact .inl rfl
  · exact timed_event fun t _ => .southSent _

theorem readBack_eventful (dt : Nat) (k : Lane) (y : LineSymbol) : Eventful (Node.readBack dt k y) := fun n => by
  unfold readBack
  split
  · refine laneRow_eventful dt k y (fun e act he m => ?_) n
    cases e <;> cases he
    exact .taken _
  · exact .inl rfl

/-- Every row is an event of the node's. -/
theorem exec_eventful (c : Instr) : ∃ row : Node → Node, Eventful row ∧ ∀ s, exec c s = s.onNode row := by
  cases c with
  | powerOnReset dt => exact ⟨_, fun n => .inr ⟨_, .supplied dt, rfl⟩, fun _ => rfl⟩
  | breakDetected dt => exact ⟨_, breakDetected_eventful dt, fun _ => rfl⟩
  | breakDriveEnd high => exact ⟨_, breakDriveEnd_eventful high, fun _ => rfl⟩
  | breakRelease dt => exact ⟨_, breakRelease_eventful dt, fun _ => rfl⟩
  | startUpComplete => exact ⟨_, loadEnd_eventful, fun _ => rfl⟩
  | cuSettleExpiry => exact ⟨_, cuSettleExpiry_eventful, fun _ => rfl⟩
  | conversionComplete reading => exact ⟨_, conversionComplete_eventful reading, fun _ => rfl⟩
  | cuRecoveryExpiry => exact ⟨_, cuRecoveryExpiry_eventful, fun _ => rfl⟩
  | passDueExpiry => exact ⟨_, passDueExpiry_eventful, fun _ => rfl⟩
  | quietGrant who => exact ⟨_, quietGrant_eventful who, fun _ => rfl⟩
  | slotBoundary => exact ⟨_, fun n => timed_event fun _ ht => .slotEnded ht, fun _ => rfl⟩
  | injectSettleExpiry => exact ⟨_, injectSettle_eventful, fun _ => rfl⟩
  | linkSilenceExpiry => exact ⟨_, fun n => timed_event fun _ ht => .silent ht, fun _ => rfl⟩
  | storeSaveComplete => exact ⟨_, saveExpiry_eventful, fun _ => rfl⟩
  | watchTimerExpiry => exact ⟨_, fun n => timed_event fun _ ht => .watchBegun ht, fun _ => rfl⟩
  | alertHoldoffExpiry => exact ⟨_, fun n => timed_event fun _ _ => .alertHeld, fun _ => rfl⟩
  | frameReceivedSouth dt y =>
    refine ⟨_, laneRow_eventful dt .rxS y (fun e act he m => ?_), fun _ => rfl⟩
    cases e <;> cases he
    exact .northbound _ rfl
  | frameReceivedNorth dt y =>
    refine ⟨_, laneRow_eventful dt .rxN y (fun e act he m => ?_), fun _ => rfl⟩
    cases e <;> cases he
    exact .southbound _ rfl
  | frameReadBack dt k y => exact ⟨_, readBack_eventful dt k y, fun _ => rfl⟩
  | framingError dt k y =>
    refine ⟨_, laneRow_eventful dt k y (fun e act he m => ?_), fun _ => rfl⟩
    cases e <;> cases he
    exact .abandoned _ _
  | lengthError dt k y =>
    refine ⟨_, laneRow_eventful dt k y (fun e act he m => ?_), fun _ => rfl⟩
    cases e <;> cases he
    exact .abandoned _ _
  | truncatedFrame dt k y =>
    refine ⟨_, laneRow_eventful dt k y (fun e act he m => ?_), fun _ => rfl⟩
    cases e <;> cases he
    exact .abandoned _ _
  | crcMismatch dt k y =>
    refine ⟨_, laneRow_eventful dt k y (fun e act he m => ?_), fun _ => rfl⟩
    cases e <;> cases he
    exact .abandoned _ _
  | gapTimeout k =>
    exact ⟨_, fun n => timed_event (t? := (n.li.lane k).gapExpiry) fun _ _ =>
      .gap k fun c => { c with timeout := linkInc c.timeout }, fun _ => rfl⟩
  | txNFrameSent => exact ⟨_, fun n => timed_event (t? := n.li.txN) fun _ _ => .northSent, fun _ => rfl⟩
  | txSFrameSent => exact ⟨_, txSExpiry_eventful, fun _ => rfl⟩
  | unknownKindCommand => exact ⟨_, command_eventful _ _ fun _ _ => .answered _ _, fun _ => rfl⟩
  | assign => exact ⟨_, command_eventful _ _ taken_judgeAssign, fun _ => rfl⟩
  | ping => exact ⟨_, command_eventful _ _ fun _ _ => .answered _ _, fun _ => rfl⟩
  | readIdentity => exact ⟨_, command_eventful _ _ fun _ _ => .answered _ _, fun _ => rfl⟩
  | readLinkCounters => exact ⟨_, command_eventful _ _ taken_judgeReadLinkCounters, fun _ => rfl⟩
  | resetNode => exact ⟨_, command_eventful _ _ fun _ _ => .nodeReset, fun _ => rfl⟩
  | configWritePopulation =>
    exact ⟨_, configWrite_eventful _ _ fun f n i _ v m st _ => taken_writePopulation f n i v m st, fun _ => rfl⟩
  | configWriteAuxRole =>
    exact ⟨_, configWrite_eventful _ _ fun f n i _ v m st _ => taken_writeAuxRole f n i v m st, fun _ => rfl⟩
  | configWriteSumTol =>
    exact ⟨_, configWrite_eventful _ _ fun f n i _ v m st hv => taken_plainItem f n i v m st
      fun _ hc => by
        obtain ⟨hpop, -, hrest⟩ := hc
        exact ⟨hpop, twoBytes_le hv, hrest⟩, fun _ => rfl⟩
  | configWriteQuietSettle =>
    exact ⟨_, configWrite_eventful _ _ fun f n i _ v m st _ => taken_plainItem f n i v m st
      fun hok hc => by
        obtain ⟨hpop, hsum, -, hrest⟩ := hc
        exact ⟨hpop, hsum, of_decide_eq_true hok, hrest⟩, fun _ => rfl⟩
  | configWriteEqFrame =>
    exact ⟨_, configWrite_eventful _ _ fun f n i _ v m st _ => taken_plainItem f n i v m st
      fun hok hc => by
        obtain ⟨hpop, hsum, hquiet, -, hrest⟩ := hc
        exact ⟨hpop, hsum, hquiet, hok, hrest⟩, fun _ => rfl⟩
  | configWriteSilenceTimeout =>
    exact ⟨_, configWrite_eventful _ _ fun f n i _ v m st hv => taken_writeSilenceTimeout f n i v m st (oneByte_le hv),
      fun _ => rfl⟩
  | configWriteAlertEnable =>
    exact ⟨_, configWrite_eventful _ _ fun f n i _ v m st _ => taken_writeAlertEnable f n i v m st, fun _ => rfl⟩
  | configWriteAlertHoldoff =>
    exact ⟨_, configWrite_eventful _ _ fun f n i _ v m st hv => taken_plainItem f n i v m st
      fun _ hc => by
        obtain ⟨hpop, hsum, hquiet, hframe, hsilence, -, hrest⟩ := hc
        exact ⟨hpop, hsum, hquiet, hframe, hsilence, oneByte_le hv, hrest⟩, fun _ => rfl⟩
  | configWriteWatchInterval =>
    exact ⟨_, configWrite_eventful _ _ fun f n i _ v m st _ => taken_plainItem f n i v m st
      fun hok hc => by
        obtain ⟨hpop, hsum, hquiet, hframe, hsilence, hholdoff, -, hrest⟩ := hc
        exact ⟨hpop, hsum, hquiet, hframe, hsilence, hholdoff, of_decide_eq_true hok, hrest⟩, fun _ => rfl⟩
  | configWriteLineThreshold =>
    exact ⟨_, configWrite_eventful _ _ fun f n i _ v m st hv => taken_plainItem f n i v m st
      fun hok hc => by
        obtain ⟨hpop, hsum, hquiet, hframe, hsilence, hholdoff, hwatch, -, hrest⟩ := hc
        exact ⟨hpop, hsum, hquiet, hframe, hsilence, hholdoff, hwatch, ⟨of_decide_eq_true hok, twoBytes_le hv⟩, hrest⟩,
      fun _ => rfl⟩
  | configWriteAutostart =>
    exact ⟨_, configWrite_eventful _ _ fun f n i _ v m st _ => taken_plainItem f n i v m st fun _ hc => hc,
      fun _ => rfl⟩
  | configWriteReportList =>
    exact ⟨_, configWrite_eventful _ _ fun f n i b v m st => taken_writeReportList f n i b v m st, fun _ => rfl⟩
  | configRead => exact ⟨_, command_eventful _ _ taken_judgeConfigRead, fun _ => rfl⟩
  | limitWrite => exact ⟨_, command_eventful _ _ taken_judgeLimitWrite, fun _ => rfl⟩
  | limitRead => exact ⟨_, command_eventful _ _ taken_judgeLimitRead, fun _ => rfl⟩
  | storeSave => exact ⟨_, command_eventful _ _ taken_judgeStoreSave, fun _ => rfl⟩
  | storeDefaults => exact ⟨_, command_eventful _ _ taken_judgeStoreDefaults, fun _ => rfl⟩
  | planWrite => exact ⟨_, command_eventful _ _ taken_judgePlanWrite, fun _ => rfl⟩
  | planRead => exact ⟨_, command_eventful _ _ taken_judgePlanRead, fun _ => rfl⟩
  | scanStart => exact ⟨_, command_eventful _ _ taken_judgeScanStart, fun _ => rfl⟩
  | scanStop => exact ⟨_, command_eventful _ _ fun _ _ => .scanStopped, fun _ => rfl⟩
  | scanStatus => exact ⟨_, command_eventful _ _ taken_judgeScanStatus, fun _ => rfl⟩
  | readResults => exact ⟨_, command_eventful _ _ taken_judgeReadResults, fun _ => rfl⟩
  | readReport => exact ⟨_, command_eventful _ _ taken_judgeReadReport, fun _ => rfl⟩
  | clearExtrema => exact ⟨_, command_eventful _ _ taken_judgeClearExtrema, fun _ => rfl⟩
  | faultRead => exact ⟨_, command_eventful _ _ taken_judgeFaultRead, fun _ => rfl⟩
  | faultAck => exact ⟨_, command_eventful _ _ taken_judgeFaultAck, fun _ => rfl⟩
  | faultAckCleared => exact ⟨_, command_eventful _ _ fun _ _ => .clearedDropped _, fun _ => rfl⟩
  | eqSet => exact ⟨_, command_eventful _ _ taken_judgeEqSet, fun _ => rfl⟩
  | eqStop => exact ⟨_, command_eventful _ _ fun _ _ => .eqStopped, fun _ => rfl⟩
  | eqResume => exact ⟨_, command_eventful _ _ fun _ _ => .eqResumed, fun _ => rfl⟩
  | eqRead => exact ⟨_, command_eventful _ _ taken_judgeEqRead, fun _ => rfl⟩
  | trim => exact ⟨_, command_eventful _ _ taken_judgeTrim, fun _ => rfl⟩
  | lineCheck => exact ⟨_, command_eventful _ _ taken_judgeLineCheck, fun _ => rfl⟩
  | maintAbort => exact ⟨_, command_eventful _ _ taken_judgeMaintAbort, fun _ => rfl⟩
  | standby => exact ⟨_, command_eventful _ _ taken_judgeStandby, fun _ => rfl⟩
  | symbolReceived dt k y =>
    refine ⟨_, laneRow_eventful dt k y (fun e act he m => ?_), fun _ => rfl⟩
    cases e <;> cases he
    · exact .ignored
    · exact .taken _
  | powerLoss dt => exact ⟨_, powerLoss_eventful dt, fun _ => rfl⟩

end Node

/-- A step leaves the node as it is, or is one event with the end every event has. -/
theorem step_cases {s t : State} (h : step s = .next t) :
    t.toNode = s.toNode ∨ ∃ m, s.Event m ∧ t.toNode = m.finish := by
  unfold step at h
  split at h
  · cases h
    exact .inl rfl
  · rename_i c rest _
    obtain ⟨row, hrow, hexec⟩ := Node.exec_eventful c
    rw [hexec, State.onNode_eq] at h
    cases h
    exact hrow s.toNode

end Sys2Proof.Machine
end

section
/-! SUPPORT. What the three clients of the converter can do inside one event (the passes of 02 and 11, the operations of
08): a run of moves, each of which writes one block in one way. An invariant that every move keeps is kept by a lease
request, a pass end, a reading or an operation's end, however long the chain of what they bring about. -/

namespace Sys2Proof.Machine

namespace Node

/-- One move of a client of the converter. -/
inductive Move (n : Node) : Node → Prop
  | resultWritten (w : ResultWrite) : Move n (n.writeResult w)
  | passChecked (pass : Nat) : Move n (n.plausibility pass)
  | railJudged (r : Range) (u : BitVec 6) : Move n (n.railOutcome r u)
  | linesCleared : Move n (n.clearLines none)
  | lineOpened (line pass : Nat) : Move n ((n.clearLines (some line)).raiseFault .lineOpen line pass none)
  | passNoted : Move n (n.withLm n.lm.passStart)
  | resultsAged : Move n (n.withRt (n.rt.map fun r => r.mapWritten fun w => { w with fresh := false }))
  | sequencer (x : Sequencer) (h : ∀ d ∈ x.armedDue, d ∈ n.seq.armedDue ∨ n.now ≤ d) : Move n (n.withSeq x)
  | converter (x : ConversionUnit) (h : ∀ d ∈ x.st.expiry, d ∈ n.cu.st.expiry ∨ n.now ≤ d) : Move n (n.withCu x)
  | maintenance (x : MaintenanceUnit) (hop : x.op.isSome = n.mu.op.isSome)
    (h : ∀ d ∈ x.st.expiry, d ∈ n.mu.st.expiry ∨ n.now ≤ d) : Move n (n.withMu x)
  | watchPass (w : Option WatchPass) : Move n (n.withPc { n.pc with watchPass := w })
  | quietAsked (who : Client) (set : List Nat) : Move n (n.quietRequest who set)
  | quietLeft (who : Client) : Move n (n.quietRelease who)
  | operationEnded (hop : n.mu.op.isSome = true) (broadcast : Bool) (reply : Frame) :
    Move n ((if broadcast then n else n.completionReply .maintenance reply).withMu { st := .idle, op := none })

/-- A run of moves. -/
def Works : Node → Node → Prop := Relation.ReflTransGen Move

theorem Works.refl (n : Node) : n.Works n := Relation.ReflTransGen.refl

theorem Works.trans {a b c : Node} (hab : a.Works b) (hbc : b.Works c) : a.Works c := Relation.ReflTransGen.trans hab hbc

theorem Move.works {a b : Node} (h : a.Move b) : a.Works b := Relation.ReflTransGen.single h

theorem works_ite {n a b : Node} {c : Prop} [Decidable c] (ha : n.Works a) (hb : n.Works b) :
    n.Works (if c then a else b) := by
  split
  · exact ha
  · exact hb

/-- What every move keeps is kept by a run of moves. -/
theorem Works.keeps {P : Node → Prop} (hmove : ∀ n m : Node, n.Move m → P n → P m) {n m : Node} (h : n.Works m)
    (hn : P n) : P m := by
  induction h with
  | refl => exact hn
  | tail _ hm ih => exact hmove _ _ hm ih

/-! ### Conversions -/

/-- The sequencer moves on, outside PASS_GAP or with its due time as it was. -/
theorem works_withSeq (n : Node) {x : Sequencer} (h : x.st ≠ .passGap ∨ (x.st = n.seq.st ∧ x.due = n.seq.due)) :
    n.Works (n.withSeq x) := by
  refine Move.works (.sequencer x fun d hd => ?_)
  rcases h with hne | ⟨hst, hdue⟩
  · simp [Sequencer.armedDue, hne] at hd
  · exact .inl (by simpa [Sequencer.armedDue, hst, hdue] using hd)

/-- The converter keeps its state and timer. -/
theorem works_withCu (n : Node) {x : ConversionUnit} (h : x.st = n.cu.st) : n.Works (n.withCu x) :=
  Move.works (.converter x fun d hd => .inl (by rwa [h] at hd))

theorem works_withOp (n : Node) (b : OpBody) : n.Works (n.withOp b) :=
  Move.works (.maintenance _ (by simp) fun _ hd => .inl hd)

/-- The maintenance unit enters a state without a timer. -/
theorem works_withMu (n : Node) {st : MuState} (h : st.expiry = none) : n.Works (n.withMu { n.mu with st := st }) :=
  Move.works (.maintenance _ rfl fun d hd => by simp [h] at hd)

theorem startConversion_works (n : Node) (r : ConvRequest) : n.Works (n.startConversion r) := by
  refine Move.works (.converter _ fun d hd => .inr ?_)
  cases hd
  exact Nat.le_add_right _ _

theorem convRequest_works (n : Node) (c : Client) (r : ConvRequest) : n.Works (n.convRequest c r) := by
  unfold convRequest
  split
  · split
    · exact .refl n
    · exact startConversion_works n r
    all_goals exact works_withCu n rfl
  · exact .refl n

theorem orderInjection_works (n : Node) (c : Client) (i : Injection) : n.Works (n.orderInjection c i) := by
  unfold orderInjection
  split
  · split
    · exact .refl n
    all_goals exact works_withCu n rfl
  · exact .refl n

theorem startPending_works (n : Node) : n.Works n.startPending := by
  unfold startPending
  split
  · exact startConversion_works n _
  · exact .refl n

/-! ### The steps of the three clients -/

theorem seqConvert_works (n : Node) (s : Step) : n.Works (n.seqConvert s) :=
  (works_withSeq n (.inl (by simp))).trans (convRequest_works _ _ _)

theorem seqBeginStep_works (n : Node) (i : Nat) : n.Works (n.seqBeginStep i) := by
  unfold seqBeginStep
  split
  · exact .refl n
  · rename_i s _
    have hindex := works_withSeq n (x := { n.seq with stepIndex := some i }) (.inr ⟨rfl, rfl⟩)
    dsimp only
    split
    · have hasked := (hindex.trans (works_withSeq _ (x := { n.seq with stepIndex := some i, st := .quietWait })
        (.inl (by simp)))).trans (Move.works (.quietAsked .seq (stepQuietSet s.source n.cfg.population)))
      split
      · exact hasked.trans (seqConvert_works _ _)
      · exact hasked
    · exact hindex.trans (seqConvert_works _ _)

theorem trimTrial_works (n : Node) (t : TrimOp) : n.Works (n.trimTrial t) :=
  ((works_withMu n rfl).trans (works_withOp _ _)).trans (convRequest_works _ _ _)

theorem testSpan_works (n : Node) (l : LineOp) (k : RoundKind) (a b : Nat) : n.Works (n.testSpan l k a b) :=
  ((works_withMu n rfl).trans (works_withOp _ _)).trans (convRequest_works _ _ _)

theorem muStart_works (n : Node) : n.Works n.muStart := by
  unfold muStart
  split
  · exact .refl n
  · split
    · split
      · exact .refl n
      · exact trimTrial_works n _
    · exact testSpan_works n _ _ _ _

theorem muBegin_works (n : Node) : n.Works n.muBegin := by
  unfold muBegin
  have hasked := (works_withMu n (st := .quietWait) rfl).trans
    (Move.works (.quietAsked .mu (channelsTo n.cfg.population)))
  dsimp only
  split
  · exact hasked.trans (muStart_works _)
  · exact hasked

theorem watchStep_works (n : Node) (steps : List Nat) : n.Works (n.watchStep steps) := by
  unfold watchStep
  split
  · exact (Move.works (.watchPass _)).trans (convRequest_works _ _ _)
  · exact .refl n

theorem watchStart_works (n : Node) : n.Works n.watchStart := by
  unfold watchStart
  split
  · exact .refl n
  · exact watchStep_works n _

theorem watchBegin_works (n : Node) : n.Works n.watchBegin := by
  unfold watchBegin
  split
  · exact .refl n
  · rename_i w _
    have hwaits : n.Works (n.withPc { n.pc with watchPass := some { w with stage := .quietWait } }) :=
      Move.works (.watchPass _)
    have hasked := hwaits.trans (Move.works (.quietAsked .watch (channelsTo n.cfg.population)))
    exact works_ite (hasked.trans (watchStart_works _)) hasked

/-! ### The lease -/

theorem grantLease_works (n : Node) (c : Client) : n.Works (n.grantLease c) := by
  refine (works_withCu n (x := { n.cu with holder := some c, waiting := n.cu.waiting.filter fun d => d != c }) rfl).trans ?_
  cases c
  · exact seqBeginStep_works _ _
  · exact muBegin_works _
  · exact watchBegin_works _

theorem grantWaiting_works (n : Node) : n.Works n.grantWaiting := by
  unfold grantWaiting
  split
  · split
    · exact grantLease_works n _
    · exact .refl n
  · exact .refl n

theorem leaseRequest_works (n : Node) (c : Client) : n.Works (n.leaseRequest c) := by
  unfold leaseRequest
  split
  · exact .refl n
  · split
    · exact grantLease_works n _
    · exact works_withCu n rfl

theorem leaseWithdraw_works (n : Node) (c : Client) : n.Works (n.leaseWithdraw c) := works_withCu n rfl

theorem dropLease_works (n : Node) : n.Works n.dropLease := by
  refine Move.works (.converter _ fun d hd => ?_)
  cases hst : n.cu.st with
  | converting c =>
    rw [hst] at hd
    cases hd
    exact .inr (Nat.le_add_right _ _)
  | _ => exact .inl (by simpa [hst] using hd)

theorem leaseRelease_works (n : Node) (c : Client) : n.Works (n.leaseRelease c) := by
  unfold leaseRelease
  split
  · exact (dropLease_works n).trans (grantWaiting_works _)
  · exact .refl n

theorem enterIdle_works (n : Node) : n.Works n.enterIdle :=
  ((Move.works (.converter { n.cu with st := .idle } fun _ hd => by cases hd)).trans (grantWaiting_works _)).trans
    (startPending_works _)

theorem conversionEnds_works (n : Node) : n.Works n.conversionEnds :=
  (Move.works (.converter _ fun _ hd => by cases hd)).trans (startPending_works _)

/-! ### The passes of the sequencer -/

theorem activate_works (n : Node) : n.Works n.activate := by
  unfold activate
  refine .trans ?_ (Move.works .resultsAged)
  exact works_withSeq n (.inr ⟨rfl, rfl⟩)

theorem advancePass_works (n : Node) : n.Works n.advancePass := works_withSeq n (.inr ⟨rfl, rfl⟩)

theorem countLate_works (n : Node) : n.Works n.countLate := works_withSeq n (.inr ⟨rfl, rfl⟩)

theorem passStart_works (n : Node) (activation : Bool) : n.Works (n.passStart activation) := by
  unfold passStart
  refine .trans ?_ (leaseRequest_works _ _)
  refine .trans ?_ (works_withSeq _ (.inl (by simp)))
  refine .trans ?_ (Move.works .passNoted)
  refine .trans ?_ (advancePass_works _)
  exact works_ite (activate_works n) (.refl n)

theorem afterPass_works (n : Node) : n.Works n.afterPass := by
  unfold afterPass
  split
  · exact works_withSeq n (.inl (by simp))
  · split
    · exact works_withSeq n (.inl (by simp))
    · split
      · exact passStart_works n _
      · split
        · exact passStart_works n _
        · rename_i d hdue
          split
          · rename_i hlt
            refine Move.works (.sequencer _ fun e he => .inr ?_)
            simp only [Sequencer.armedDue, if_true, hdue, Option.mem_def, Option.some.injEq] at he
            exact he ▸ hlt.le
          · split
            · exact passStart_works n _
            · exact (countLate_works n).trans (passStart_works _ _)

theorem passEnd_works (n : Node) : n.Works n.passEnd := by
  unfold passEnd
  refine .trans ?_ (afterPass_works _)
  refine .trans ?_ (works_withSeq _ (.inr ⟨rfl, rfl⟩))
  refine .trans ?_ (leaseRelease_works _ _)
  refine .trans ?_ (Move.works (.passChecked _))
  exact works_withSeq n (.inr ⟨rfl, rfl⟩)

theorem startDeferred_works (n : Node) : n.Works n.startDeferred := by
  unfold startDeferred
  split
  · dsimp only
    split
    · exact (passStart_works n _).trans (countLate_works _)
    · exact passStart_works n _
  · exact .refl n

theorem seqStepEnd_works (n : Node) (i : Nat) (s : Step) (a : Accum) : n.Works (n.seqStepEnd i s a) := by
  have hnext : ∀ m : Node, m.Works (if (m.planStep (i + 1)).isSome then m.seqBeginStep (i + 1) else m.passEnd) :=
    fun m => works_ite (seqBeginStep_works _ _) (passEnd_works _)
  have hquiet : ∀ m : Node, m.Works (if s.quiet then m.quietRelease .seq else m) :=
    fun m => works_ite (Move.works (.quietLeft .seq)) (.refl m)
  unfold seqStepEnd
  refine .trans ?_ (hnext _)
  refine .trans ?_ (hquiet _)
  refine .trans ?_ (Move.works (.resultWritten _))
  exact works_withSeq n (.inr ⟨rfl, rfl⟩)

theorem seqSample_works (n : Node) (v : Int) : n.Works (n.seqSample v) := by
  unfold seqSample
  split
  · split
    · exact .refl n
    · split
      · exact .refl n
      · dsimp only
        split
        · refine .trans ?_ (convRequest_works _ _ _)
          exact works_withSeq n (.inr ⟨rfl, rfl⟩)
        · exact seqStepEnd_works n _ _ _
  · exact .refl n

theorem seqStop_works (n : Node) : n.Works n.seqStop := by
  have hstopped : n.Works (n.withSeq { n.seq with st := .stopped, stepIndex := none, acc := none, due := none }) :=
    works_withSeq n (.inl (by simp))
  have hreleased := (hstopped.trans (Move.works (.quietLeft .seq))).trans (leaseRelease_works _ .seq)
  unfold seqStop
  dsimp only
  split
  · exact .refl n
  · exact hstopped.trans (leaseWithdraw_works _ _)
  · exact hreleased
  · exact hreleased
  · exact hstopped
  · exact hstopped

/-! ### The readings and the end of a maintenance operation -/

theorem trimTrial_op (n : Node) (t : TrimOp) : (n.trimTrial t).mu.op.isSome = n.mu.op.isSome := by
  simp [trimTrial, withOp]

theorem testSpan_op (n : Node) (l : LineOp) (k : RoundKind) (a b : Nat) :
    (n.testSpan l k a b).mu.op.isSome = n.mu.op.isSome := by
  simp [testSpan, withOp]

theorem muStart_op (n : Node) : n.muStart.mu.op.isSome = n.mu.op.isSome := by
  unfold muStart
  split
  · rfl
  · split
    · split
      · rfl
      · exact trimTrial_op n _
    · exact testSpan_op n _ _ _ _

theorem muBegin_op (n : Node) : n.muBegin.mu.op.isSome = n.mu.op.isSome := by
  unfold muBegin
  dsimp only
  split
  · rw [muStart_op]
    simp
  · simp

theorem grantLease_op (n : Node) (c : Client) : (n.grantLease c).mu.op.isSome = n.mu.op.isSome := by
  cases c
  · simp [grantLease]
  · simp [grantLease, muBegin_op]
  · simp [grantLease]

theorem grantWaiting_op (n : Node) : n.grantWaiting.mu.op.isSome = n.mu.op.isSome := by
  unfold grantWaiting
  split
  · split
    · exact grantLease_op n _
    · rfl
  · rfl

theorem leaseRelease_op (n : Node) (c : Client) : (n.leaseRelease c).mu.op.isSome = n.mu.op.isSome := by
  unfold leaseRelease
  split
  · rw [grantWaiting_op]
    simp
  · rfl

theorem endOperation_works (n : Node) (kind : Byte) (st : Status) (data : List Byte) :
    n.Works (n.endOperation kind st data) := by
  unfold endOperation
  split
  · exact .refl n
  · rename_i o ho
    have hop : ((n.quietRelease .mu).leaseRelease .mu).mu.op.isSome = true := by
      rw [leaseRelease_op]
      simp [ho]
    refine .trans ?_ (startDeferred_works _)
    refine .trans ?_ (Move.works (.operationEnded hop o.broadcast _))
    exact (Move.works (.quietLeft .mu)).trans (leaseRelease_works _ .mu)

theorem trimCommit_works (n : Node) (t : TrimOp) : n.Works (n.trimCommit t) := by
  have hstored : ∀ (x : ConversionUnit) (b : OpBody), x.st = n.cu.st →
      n.Works (((n.withCu x).withOp b).railOutcome t.range t.u) := fun x b hx => by
    refine .trans ?_ (Move.works (.railJudged _ _))
    exact (works_withCu n hx).trans (works_withOp _ _)
  unfold trimCommit
  dsimp only
  split
  · refine .trans ?_ (trimTrial_works _ _)
    exact hstored _ _ rfl
  · refine .trans ?_ (endOperation_works _ _ _ _)
    exact hstored _ _ rfl

theorem trimReading_works (n : Node) (t : TrimOp) (v : Int) : n.Works (n.trimReading t v) := by
  have hnext : ∀ t : TrimOp,
      n.Works (if 0 < t.bit then n.trimTrial { t with bit := t.bit - 1 } else n.trimCommit t) :=
    fun t => works_ite (trimTrial_works n _) (trimCommit_works n t)
  exact hnext _

theorem lineEnd_works (n : Node) (l : LineOp) (result : Nat) : n.Works (n.lineEnd l result) := by
  unfold lineEnd
  refine .trans ?_ (endOperation_works _ _ _ _)
  split
  · exact Move.works .linesCleared
  · exact Move.works (.lineOpened _ _)
  · exact .refl n

theorem lineSearch_works (n : Node) (l : LineOp) : n.Works (n.lineSearch l) := by
  unfold lineSearch
  split <;> exact testSpan_works n _ _ _ _

theorem lineJudge_works (n : Node) (l : LineOp) (on off : Int) : n.Works (n.lineJudge l on off) := by
  unfold lineJudge
  dsimp only
  split
  · split
    · exact (works_withOp n _).trans (lineSearch_works _ _)
    · exact (works_withOp n _).trans (lineEnd_works _ _ _)
  · exact (works_withOp n _).trans (lineSearch_works _ _)
  · exact (works_withOp n _).trans (lineEnd_works _ _ _)

theorem muReading_works (n : Node) (v : Int) : n.Works (n.muReading v) := by
  unfold muReading
  split
  · exact .refl n
  · split
    · exact trimReading_works n _ _
    · dsimp only
      refine ((works_withOp n _).trans (orderInjection_works _ _ _)).trans (Move.works (.maintenance _ rfl fun d hd => ?_))
      cases hd
      exact .inr (Nat.le_add_right _ _)
    · exact (orderInjection_works n _ _).trans (lineJudge_works _ _ _ _)
    · exact .refl n

/-! ### A sample or reading delivered -/

/-- R195: the end of a watch pass up to the Power Controller's decision. -/
theorem watchPassEnd_works (n : Node) (pass : Nat) : ∃ m, n.Works m ∧ n.watchPassEnd pass = m.watchDecide :=
  ⟨_, (((Move.works (.passChecked pass)).trans (Move.works (.quietLeft .watch))).trans (leaseRelease_works _ .watch)).trans
    (Move.works (.watchPass none)), rfl⟩

/-- R6: what a delivery brings about is a run of moves, at whose end the Power Controller may decide (R195). -/
theorem deliver_works (n : Node) (v : Int) : ∃ m, n.Works m ∧ (n.deliver v = m ∨ n.deliver v = m.watchDecide) := by
  unfold deliver
  split
  · exact ⟨n, .refl n, .inl rfl⟩
  · exact ⟨_, seqSample_works n v, .inl rfl⟩
  · exact ⟨_, muReading_works n v, .inl rfl⟩
  · unfold watchSample
    split
    · exact ⟨n, .refl n, .inl rfl⟩
    · rename_i w _
      split
      · exact ⟨n, .refl n, .inl rfl⟩
      · exact ⟨n, .refl n, .inl rfl⟩
      · rename_i src _
        have hwritten : n.Works (if isCell src && decide (n.cfg.population < src) then n else n.watchWrite w src v) := by
          split
          · exact .refl n
          · exact Move.works (.resultWritten _)
        dsimp only
        split
        · obtain ⟨m, hm, heq⟩ := watchPassEnd_works
            (if isCell src && decide (n.cfg.population < src) then n else n.watchWrite w src v) w.pass
          exact ⟨m, hwritten.trans hm, .inr heq⟩
        · exact ⟨_, hwritten.trans (watchStep_works _ _), .inl rfl⟩

/-- R130: what a requester does at its grant. -/
theorem actOnGrant_works (n : Node) (who : Client) : n.Works (n.actOnGrant who) := by
  unfold actOnGrant
  split
  · split
    · exact seqConvert_works n _
    · exact .refl n
  · exact works_ite (muStart_works n) (.refl n)
  · split
    · exact .refl n
    · exact works_ite (watchStart_works n) (.refl n)

theorem injectSettled_works (n : Node) : n.Works n.injectSettled := by
  unfold injectSettled
  split
  · exact .refl n
  · split
    · exact .refl n
    · exact (works_withMu n rfl).trans (convRequest_works _ _ _)

end Node

end Sys2Proof.Machine
end

section
/-! SUPPORT. The frame timer's operations (R97, R101), each said once: what of the Equalizer a slot's begin, a restart at
slot 0, a wake and a slot boundary leave, and on what the conditions of R73 and R102 rest. -/

namespace Sys2Proof.Machine

namespace Equalizer

@[simp] theorem mapChannels_channels (e : Equalizer) (g : Channel → Channel) :
    (e.mapChannels g).channels = e.channels.map g := rfl
@[simp] theorem mapChannels_st (e : Equalizer) (g : Channel → Channel) : (e.mapChannels g).st = e.st := rfl
@[simp] theorem mapChannels_frameMs (e : Equalizer) (g : Channel → Channel) : (e.mapChannels g).frameMs = e.frameMs := rfl
@[simp] theorem mapChannels_slot (e : Equalizer) (g : Channel → Channel) : (e.mapChannels g).slot = e.slot := rfl
@[simp] theorem mapChannels_slotEnd (e : Equalizer) (g : Channel → Channel) : (e.mapChannels g).slotEnd = e.slotEnd := rfl
@[simp] theorem mapChannels_quiet (e : Equalizer) (g : Channel → Channel) : (e.mapChannels g).quiet = e.quiet := rfl
@[simp] theorem mapChannels_preStandby (e : Equalizer) (g : Channel → Channel) :
    (e.mapChannels g).preStandby = e.preStandby := rfl

/-- R102: an Equalizer with its switches closed by a condition of the channel. -/
def closing (e : Equalizer) (p : Channel → Bool) : Equalizer :=
  e.mapChannels fun c => if p c then { c with closed := true } else c

/-- R97, R110: an Equalizer with its frame length taken and staged values applied, before its state is adjusted. -/
def frameTaken (e : Equalizer) (frameMs : Nat) : Equalizer :=
  { e with frameMs := frameMs, channels := e.channels.map fun c => { c.applyStaged with kept := false } }

@[simp] theorem frameTaken_st (e : Equalizer) (k : Nat) : (e.frameTaken k).st = e.st := rfl
@[simp] theorem frameTaken_frameMs (e : Equalizer) (k : Nat) : (e.frameTaken k).frameMs = k := rfl
@[simp] theorem frameTaken_quiet (e : Equalizer) (k : Nat) : (e.frameTaken k).quiet = e.quiet := rfl
@[simp] theorem frameTaken_preStandby (e : Equalizer) (k : Nat) : (e.frameTaken k).preStandby = e.preStandby := rfl
@[simp] theorem frameTaken_channels (e : Equalizer) (k : Nat) :
    (e.frameTaken k).channels = e.channels.map fun c => { c.applyStaged with kept := false } := rfl

end Equalizer

namespace Node

/-- R73: the inhibits rest on the settings, the limit states and the Fault Table. -/
theorem inhibited_congr {n m : Node} (hcfg : m.cfg = n.cfg) (hlm : m.lm = n.lm) (hft : m.ft = n.ft) (k : Nat) :
    m.inhibited k = n.inhibited k := by
  simp only [inhibited, inhibitsAll, lineInhibits, auxHeat, hcfg, hlm, hft]

/-- R102: the conditions of a closed switch rest on the inhibits, the Equalizer's state and the quiet requests. -/
theorem mayClose_congr {n m : Node} (hcfg : m.cfg = n.cfg) (hlm : m.lm = n.lm) (hft : m.ft = n.ft)
    (hst : m.eq.st = n.eq.st) (hquiet : m.eq.quiet = n.eq.quiet) (slot : Nat) (c : Channel) :
    m.mayClose slot c = n.mayClose slot c := by
  simp only [mayClose, inhibited_congr hcfg hlm hft, hst, hquiet]

/-- R101: a slot that begins. -/
theorem beginSlot_eq (n : Node) (k t : Nat) :
    (n.beginSlot k t).eq = { n.eq.closing (n.mayClose k) with
      slot := k
      slotEnd := some (t + slotLength n.eq.frameMs) } := by
  have hmay : ∀ c, (n.withEq { n.eq with slot := k, slotEnd := some (t + slotLength n.eq.frameMs) }).mayClose k c
      = n.mayClose k c := fun c => mayClose_congr rfl rfl rfl rfl rfl k c
  simp only [beginSlot, closeSwitches, withEq_eq, hmay, Equalizer.closing, Equalizer.mapChannels]

/-- R97: a start or restart at slot 0. -/
theorem restartFrame_eq (n : Node) (st : Equalizer → EqState) :
    (n.restartFrame st).eq
      = { { n.eq.frameTaken n.cfg.eqFrame with st := st (n.eq.frameTaken n.cfg.eqFrame) }.closing
          ((n.withEq { n.eq with st := st (n.eq.frameTaken n.cfg.eqFrame) }).mayClose 0) with
        slot := 0
        slotEnd := some (n.now + slotLength n.cfg.eqFrame) } := by
  have hmay : (n.withEq { n.eq.frameTaken n.cfg.eqFrame with st := st (n.eq.frameTaken n.cfg.eqFrame) }).mayClose 0
      = (n.withEq { n.eq with st := st (n.eq.frameTaken n.cfg.eqFrame) }).mayClose 0 :=
    funext fun c => mayClose_congr rfl rfl rfl rfl rfl 0 c
  rw [← hmay]
  exact beginSlot_eq (n.withEq { n.eq.frameTaken n.cfg.eqFrame with st := st (n.eq.frameTaken n.cfg.eqFrame) }) 0 n.now

/-- R123: the state the Equalizer wakes into. -/
def wakeState (watchWake : Bool) (pre : Option EqState) (e : Equalizer) : EqState :=
  if watchWake || pre == some .safeStop then .safeStop else if e.owes then .running else .idle

/-- R123: the Equalizer of a wake. -/
theorem eqWake_eq {n : Node} (h : n.eq.st = .disabled) (w : Bool) :
    (n.eqWake w).eq = { (n.restartFrame (wakeState w n.eq.preStandby)).eq with preStandby := none } := by
  unfold eqWake
  rw [if_pos h]
  rfl

theorem eqWake_of_ne {n : Node} (h : n.eq.st ≠ .disabled) (w : Bool) : n.eqWake w = n := by
  unfold eqWake
  rw [if_neg h]

/-- R193: the Equalizer of a frame wake. -/
theorem frameWake_eq (n : Node) :
    n.frameWake.eq = ((n.withPc { n.pc with power := .active, watchTimer := none }).powerUp.eqWake false).eq := by
  simp [frameWake]

/-- R101, R107: a slot's end: whether the Equalizer finishes (R107). -/
def finishes (n : Node) : Bool :=
  n.eq.st == .running && n.eq.channels.any Channel.completes
    && !(n.eq.mapChannels (Channel.endSlot n.now (nextSlot n.eq.slot))).owes

/-- R101, R107: the Equalizer at the end of a slot. -/
theorem endSlot_eq (n : Node) :
    n.endSlot.eq = { n.eq.mapChannels (Channel.endSlot n.now (nextSlot n.eq.slot)) with
      st := if n.finishes then .idle else n.eq.st } := by
  unfold endSlot finishes
  dsimp only
  split
  · simp only [addReason_frame, withEq_eq]
  · rfl

/-- R101, R110: the Equalizer before the slot `next` begins. -/
theorem slotBoundary_eq (n : Node) (t : Nat) :
    (n.slotBoundary t).eq = ((if nextSlot n.eq.slot = 0
      then n.endSlot.withEq { n.endSlot.eq with frameMs := n.cfg.eqFrame }.stagedApplied
      else n.endSlot).beginSlot (nextSlot n.eq.slot) t).eq := by
  unfold slotBoundary takeFrameLength
  simp only [withEq_eq, endSlot_frame]
  rfl

end Node

end Sys2Proof.Machine
end

section
/-! SUPPORT. R102, R103: the switches. The channel records through a step: what every operation does to them is a map that
keeps each channel's number and the ranges of R99, or they are the records of a reset. -/

namespace Sys2Proof.Machine

/-- R99: the ranges of one channel. -/
abbrev Channel.InRange (c : Channel) : Prop :=
  c.duty ≤ Config.dutyMax ∧ c.budget ≤ Config.budgetMax
    ∧ ∀ v ∈ c.staged, v.duty ≤ Config.dutyMax ∧ v.budget ≤ Config.budgetMax

/-- The records `l'` are the records `l`, each changed to one of the same channel that is in its ranges when the old one
is. -/
def Tended (l l' : List Channel) : Prop :=
  ∃ g : Channel → Channel, (∀ c, (g c).num = c.num ∧ (c.InRange → (g c).InRange)) ∧ l' = l.map g

theorem Tended.refl (l : List Channel) : Tended l l := ⟨id, fun _ => ⟨rfl, id⟩, by simp⟩

theorem Tended.trans {a b c : List Channel} (hab : Tended a b) (hbc : Tended b c) : Tended a c := by
  obtain ⟨g, hg, rfl⟩ := hab
  obtain ⟨h, hh, rfl⟩ := hbc
  exact ⟨h ∘ g, fun c => ⟨(hh _).1.trans (hg c).1, fun hc => (hh _).2 ((hg c).2 hc)⟩, by simp⟩

theorem Tended.map {l : List Channel} {g : Channel → Channel} (hg : ∀ c, (g c).num = c.num ∧ (c.InRange → (g c).InRange)) :
    Tended l (l.map g) := ⟨g, hg, rfl⟩

theorem Tended.inRange {l l' : List Channel} (h : Tended l l') (hl : ∀ c ∈ l, c.InRange) : ∀ c ∈ l', c.InRange := by
  obtain ⟨g, hg, rfl⟩ := h
  intro c hc
  obtain ⟨d, hd, rfl⟩ := List.mem_map.mp hc
  exact (hg d).2 (hl d hd)

theorem Tended.nums {l l' : List Channel} (h : Tended l l') : l'.map Channel.num = l.map Channel.num := by
  obtain ⟨g, hg, rfl⟩ := h
  rw [List.map_map]
  exact List.map_congr_left fun c _ => (hg c).1

/-- The channel `d` is `c` but for its switch, which has not closed (R104). -/
structure Channel.Opens (c d : Channel) : Prop where
  num : d.num = c.num
  duty : d.duty = c.duty
  budget : d.budget = c.budget
  staged : d.staged = c.staged
  kept_open : c.closed = false → d.closed = false ∧ d.openSince = c.openSince

theorem Channel.Opens.refl (c : Channel) : c.Opens c := ⟨rfl, rfl, rfl, rfl, fun h => ⟨h, rfl⟩⟩

theorem Channel.openAt_opens (c : Channel) (t : Nat) (kept : Bool) : c.Opens (c.openAt t kept) := by
  cases hclosed : c.closed
  · simpa [Channel.openAt, hclosed] using Channel.Opens.refl c
  · constructor <;> simp [Channel.openAt, hclosed]

theorem Channel.cut_opens (c : Channel) (t : Nat) : c.Opens (c.cut t) := by
  rw [Channel.cut_eq]
  refine ⟨rfl, rfl, rfl, rfl, fun h => ⟨rfl, ?_⟩⟩
  simp [h]

theorem Channel.Opens.tends {c d : Channel} (h : c.Opens d) : d.num = c.num ∧ (c.InRange → d.InRange) := by
  refine ⟨h.num, fun hc => ?_⟩
  unfold Channel.InRange
  rwa [h.duty, h.budget, h.staged]

theorem Channel.applyStaged_tends (c : Channel) :
    c.applyStaged.num = c.num ∧ (c.InRange → c.applyStaged.InRange) := by
  cases hst : c.staged with
  | none => simp [Channel.applyStaged, hst]
  | some v =>
    refine ⟨by simp [Channel.applyStaged, hst], fun ⟨_, _, hc⟩ => ?_⟩
    obtain ⟨hduty, hbudget⟩ := hc v hst
    simpa [Channel.applyStaged, hst, Channel.InRange] using ⟨hduty, hbudget⟩

theorem Channel.counted_tends (c : Channel) : c.counted.num = c.num ∧ (c.InRange → c.counted.InRange) := by
  unfold Channel.counted
  split
  · exact ⟨rfl, fun ⟨hduty, hbudget, hst⟩ => ⟨hduty, (Nat.sub_le _ _).trans hbudget, hst⟩⟩
  · exact ⟨rfl, id⟩

theorem Channel.endSlot_tends (c : Channel) (t next : Nat) :
    (c.endSlot t next).num = c.num ∧ (c.InRange → (c.endSlot t next).InRange) := by
  obtain ⟨hnum, hrange⟩ := c.counted_tends
  unfold Channel.endSlot
  dsimp only
  split
  · exact ⟨hnum, hrange⟩
  · obtain ⟨hnum', hrange'⟩ := (Channel.openAt_opens { c.counted with
      done := c.done || c.completes, kept := false } t false).tends
    exact ⟨hnum'.trans hnum, fun hc => hrange' (hrange hc)⟩

namespace Node

/-! ### What each operation does to the channel records -/

theorem enforceOpen_tended (n : Node) : Tended n.eq.channels n.enforceOpen.eq.channels :=
  Tended.map fun c => by
    split
    · exact ⟨rfl, id⟩
    · exact (c.openAt_opens _ _).tends

theorem finish_tended (n : Node) : Tended n.eq.channels n.finish.eq.channels := by
  rw [finish_eq]
  exact n.enforceOpen_tended

theorem quietRequest_tended (n : Node) (who : Client) (set : List Nat) :
    Tended n.eq.channels (n.quietRequest who set).eq.channels :=
  Tended.map fun c => by
    split
    · exact (c.openAt_opens _ _).tends
    · exact ⟨rfl, id⟩

theorem Works.tended {n m : Node} (h : n.Works m) : Tended n.eq.channels m.eq.channels :=
  h.keeps (P := fun m => Tended n.eq.channels m.eq.channels)
    (fun a b hab ha => by
      refine ha.trans ?_
      cases hab with
      | quietAsked who set => exact a.quietRequest_tended who set
      | quietLeft who => exact .refl _
      | operationEnded hop b reply => cases b <;> simpa using Tended.refl _
      | _ => simpa using Tended.refl _)
    (.refl _)

theorem closing_tended (e : Equalizer) (p : Channel → Bool) : Tended e.channels (e.closing p).channels :=
  Tended.map fun c => by
    split
    · exact ⟨rfl, id⟩
    · exact ⟨rfl, id⟩

theorem restartFrame_tended (n : Node) (st : Equalizer → EqState) :
    Tended n.eq.channels (n.restartFrame st).eq.channels := by
  have hstaged : Tended n.eq.channels (n.eq.frameTaken n.cfg.eqFrame).channels :=
    Tended.map fun c => c.applyStaged_tends
  rw [restartFrame_eq]
  exact hstaged.trans (closing_tended { n.eq.frameTaken n.cfg.eqFrame with st := st (n.eq.frameTaken n.cfg.eqFrame) } _)

theorem eqWake_tended (n : Node) (w : Bool) : Tended n.eq.channels (n.eqWake w).eq.channels := by
  by_cases h : n.eq.st = .disabled
  · rw [eqWake_eq h]
    exact n.restartFrame_tended _
  · rw [eqWake_of_ne h]
    exact .refl _

theorem beginSlot_tended (n : Node) (k t : Nat) : Tended n.eq.channels (n.beginSlot k t).eq.channels := by
  rw [beginSlot_eq]
  exact closing_tended n.eq _

theorem endSlot_tended (n : Node) : Tended n.eq.channels n.endSlot.eq.channels := by
  rw [endSlot_eq]
  exact Tended.map fun c => c.endSlot_tends _ _

theorem slotBoundary_tended (n : Node) (t : Nat) : Tended n.eq.channels (n.slotBoundary t).eq.channels := by
  rw [slotBoundary_eq]
  refine n.endSlot_tended.trans ?_
  split
  · exact Tended.trans (Tended.map fun c => c.applyStaged_tends) (beginSlot_tended _ _ _)
  · exact beginSlot_tended _ _ _

theorem frameWake_tended (n : Node) : Tended n.eq.channels n.frameWake.eq.channels := by
  have h := eqWake_tended (n.withPc { n.pc with power := .active, watchTimer := none }).powerUp false
  simpa [frameWake] using h

theorem watchDecide_tended (n : Node) : Tended n.eq.channels n.watchDecide.eq.channels := by
  unfold watchDecide
  split
  · split
    · simpa using eqWake_tended
        ((n.withPc { n.pc with power := .active }).addReason fun r => { r with watchWake := true }) true
    · simpa using Tended.refl n.eq.channels
  · exact .refl _
  · exact .refl _

theorem deliver_tended (n : Node) (v : Int) : Tended n.eq.channels (n.deliver v).eq.channels := by
  obtain ⟨m, hm, heq | heq⟩ := deliver_works n v
  · rw [heq]
    exact hm.tended
  · rw [heq]
    exact hm.tended.trans m.watchDecide_tended

theorem safeStop_tended (n : Node) : Tended n.eq.channels n.safeStop.eq.channels := by
  have hcut : Tended n.eq.channels (n.eq.channels.map (Channel.cut n.now)) := Tended.map fun c => (c.cut_opens _).tends
  unfold safeStop
  split
  · exact hcut
  · exact hcut
  · exact .refl _
  · exact .refl _

/-- R192: the node in standby, before frames that wait behind the STANDBY wake it. -/
def asleep (n : Node) : Node :=
  let n := n.seqStop.eqDisable.powerDown
  let n := n.withLi { n.li with silence := none }
  (n.withPc { n.pc with power := .standby }).startWatchTimer

theorem asleep_eq (n : Node) : n.asleep.eq = n.seqStop.eqDisable.eq := by
  simp [asleep]

theorem enterStandby_eq (n : Node) :
    n.enterStandby = if n.asleep.ch.cmdQueue.isEmpty then n.asleep else n.asleep.frameWake := rfl

theorem enterStandby_tended (n : Node) : Tended n.eq.channels n.enterStandby.eq.channels := by
  have hcut : Tended n.seqStop.eq.channels n.seqStop.eqDisable.eq.channels := Tended.map fun c => (c.cut_opens _).tends
  have hasleep : Tended n.eq.channels n.asleep.eq.channels := by
    rw [asleep_eq]
    exact n.seqStop_works.tended.trans hcut
  rw [enterStandby_eq]
  split
  · exact hasleep
  · exact hasleep.trans n.asleep.frameWake_tended

theorem applyLoad_eq (n : Node) : n.applyLoad.eq = n.eq := by
  unfold applyLoad
  split <;> simp [loadLimits]

theorem autostart_works (n : Node) : n.Works n.autostart := by
  unfold autostart
  split
  · exact .refl n
  · refine works_ite ?_ (.refl n)
    refine .trans ?_ (passStart_works _ _)
    exact works_withSeq n (.inr ⟨rfl, rfl⟩)

/-- R191: the node ACTIVE on the settings loaded, before an autostart. -/
def started (n : Node) : Node :=
  let n := n.applyLoad
  let n := n.withPc { n.pc with power := .active, phase := .complete }
  (n.restartFrame Equalizer.adjusted).silenceRestart

theorem startUpComplete_eq (n : Node) : n.startUpComplete = n.started.autostart := rfl

theorem started_eq (n : Node) : n.started.eq = ((n.applyLoad.withPc { n.applyLoad.pc with
    power := .active, phase := .complete }).restartFrame Equalizer.adjusted).eq := by
  simp [started]

theorem startUpComplete_tended (n : Node) : Tended n.eq.channels n.startUpComplete.eq.channels := by
  have h := restartFrame_tended (n.applyLoad.withPc { n.applyLoad.pc with power := .active, phase := .complete })
    Equalizer.adjusted
  rw [withPc_eq, applyLoad_eq, ← started_eq] at h
  exact h.trans (autostart_works _).tended

theorem changePopulation_tended (n : Node) (v : Nat) : Tended n.eq.channels (n.changePopulation v).eq.channels :=
  Tended.map fun c => by
    split
    · exact ⟨rfl, fun ⟨hduty, _, _⟩ => ⟨hduty, Nat.zero_le _, fun _ h => by cases h⟩⟩
    · exact ⟨rfl, id⟩

theorem stage_tended (e : Equalizer) {entries : List EqEntry} {p : Nat} (h : ∀ x ∈ entries, x.allowed p = true) :
    Tended e.channels (e.stage entries).channels :=
  Tended.map fun c => by
    split
    · exact ⟨rfl, id⟩
    · rename_i x hx
      have hallowed := h x (List.mem_of_find?_eq_some hx)
      simp only [EqEntry.allowed, Bool.and_eq_true, decide_eq_true_eq] at hallowed
      obtain ⟨⟨-, hduty⟩, hbudget⟩ := hallowed
      refine ⟨rfl, fun ⟨hd, hb, _⟩ => ⟨hd, hb, fun v hv => ?_⟩⟩
      cases hv
      exact ⟨hduty, hbudget⟩

theorem stop_tended (e : Equalizer) (t : Nat) : Tended e.channels (e.stop t).channels := by
  rw [Equalizer.stop_eq]
  exact Tended.map fun c => ⟨rfl, fun ⟨hduty, _, _⟩ => ⟨hduty, Nat.zero_le _, fun _ h => by cases h⟩⟩

theorem acceptOperation_works (f : Frame) (b : OpBody) (n : Node) :
    (n.withMu { st := .leaseWait, op := some { tag := f.tag, broadcast := f.isBroadcast, body := b } }).Works
      (n.acceptOperation f b) :=
  leaseRequest_works _ _

theorem abortOperation_works (o : Operation) (n : Node) : n.Works (n.abortOperation o) := by
  unfold abortOperation
  dsimp only
  split
  · exact (leaseWithdraw_works n _).trans (endOperation_works _ _ _ _)
  · exact (leaseWithdraw_works n _).trans (endOperation_works _ _ _ _)

theorem enqueueCommand_tended (n : Node) (f : Frame) : Tended n.eq.channels (n.enqueueCommand f).eq.channels := by
  unfold enqueueCommand
  split
  · dsimp only
    split
    · exact .refl _
    · simpa using Tended.refl _
    · exact frameWake_tended _
  · dsimp only
    split
    · exact .refl _
    · simpa using Tended.refl _
    · exact .refl _

/-- R164: what becomes of a good frame on lane 0. -/
theorem northbound_cases (n : Node) (f : Frame) : n.northbound f = n.enqueueCommand f
    ∨ n.northbound f = (n.enqueueCommand f).enqueueNorth f ∨ n.northbound f = n.enqueueNorth f
    ∨ n.northbound f = n.countMisaddressed := by
  unfold northbound
  dsimp only
  (repeat' split) <;> simp

theorem northbound_tended (n : Node) (f : Frame) : Tended n.eq.channels (n.northbound f).eq.channels := by
  rcases n.northbound_cases f with heq | heq | heq | heq
  · rw [heq]
    exact enqueueCommand_tended n f
  · rw [heq]
    simpa using enqueueCommand_tended n f
  · rw [heq]
    simpa using Tended.refl n.eq.channels
  · rw [heq]
    simpa using Tended.refl n.eq.channels

/-- The channel records of a reset at the moment `t` (R125). -/
def freshChannels (t : Nat) : List Channel := channelNumbers.map (Channel.initial t)

/-- R179: the blocks a soft reset gives their values before the Equalizer takes its own. -/
def softCleared (n : Node) : Node :=
  let n := n.cuSoftReset
  let n := n.withSeq Sequencer.initial
  let n := n.withRt initialRecords
  let n := n.lmSoftReset
  let n := n.withFt { entries := [], evictions := 0 }
  let n := n.withMu { st := .idle, op := none }
  n.withPc { n.pc with cause := .soft, watchTimer := none, watchRaise := false, watchPass := none }

theorem softReset_def (n : Node) : n.softReset = n.softCleared.eqSoftReset.silenceRestart.chSoftReset := rfl

/-- R125: the Equalizer of a soft reset before its frame timer restarts. -/
def eqCleared (n : Node) : Node := n.withEq { n.eq with
  st := .idle
  channels := freshChannels n.now
  quiet := QuietList.empty
  preStandby := none }

theorem softReset_eq (n : Node) :
    n.softReset.eq = (n.softCleared.eqCleared.restartFrame Equalizer.adjusted).eq := by
  rw [softReset_def]
  simp only [chSoftReset, withCh_eq, withLi_eq, silenceRestart_frame]
  rfl

theorem softReset_tended (n : Node) : Tended (freshChannels n.now) n.softReset.eq.channels := by
  rw [softReset_eq]
  exact restartFrame_tended n.softCleared.eqCleared Equalizer.adjusted

/-- The channel records after a command come of those before it, or of those of a reset. -/
theorem Taken.tended {f : Frame} {n m : Node} (h : n.Taken f m) :
    Tended n.eq.channels m.eq.channels ∨ ∃ t, Tended (freshChannels t) m.eq.channels := by
  cases h with
  | nodeReset =>
    simp only [answer_frame]
    exact .inr ⟨_, n.softReset_tended⟩
  | populationSet v hv hallowed =>
    simp only [answer_frame]
    exact .inl (n.changePopulation_tended v)
  | scanStarted hst hmu =>
    simp only [answer_frame]
    exact .inl (n.passStart_works true).tended
  | scanStopped =>
    simp only [answer_frame]
    exact .inl n.seqStop_works.tended
  | eqStaged entries hentries =>
    simp only [answer_frame]
    exact .inl (stage_tended _ hentries)
  | eqStopped =>
    simp only [answer_frame]
    exact .inl (stop_tended _ _)
  | doneEmptied data => exact .inl (Tended.map fun c => ⟨rfl, id⟩)
  | operationAccepted b hb => exact .inl (acceptOperation_works f b n).tended
  | operationAborted o ho =>
    have hanswer : Tended n.eq.channels (n.answer f .ok []).eq.channels := by simpa using Tended.refl _
    exact .inl (hanswer.trans (abortOperation_works o _).tended)
  | standbyEntered hmu hw =>
    have hanswer : Tended n.eq.channels (n.answer f .ok []).eq.channels := by simpa using Tended.refl _
    exact .inl (hanswer.trans (enterStandby_tended _))
  | saveBegun hss => exact .inl (.refl _)
  | _ => exact .inl (by simpa [restoreDefaults, Equalizer.resume] using Tended.refl n.eq.channels)

theorem Heard.tended {k : Lane} {n m : Node} (h : n.Heard k m) : Tended n.eq.channels m.eq.channels := by
  cases h with
  | northbound f hk => simpa using (n.setReceiver .rxS .hunt).northbound_tended f
  | _ => simpa [abandon] using Tended.refl _

theorem Expired.tended {n m e : Node} {t : Nat} (h : n.Expired t m e) : Tended m.eq.channels e.eq.channels := by
  cases h with
  | loaded hphase => exact m.startUpComplete_tended
  | settled hst => exact m.enterIdle_works.tended
  | recovered hst => exact m.enterIdle_works.tended
  | converted c reading hst ht => exact m.conversionEnds_works.tended.trans (deliver_tended _ _)
  | passDue hst hmu => exact (m.passStart_works false).tended
  | quietGranted who r hr ht => exact (actOnGrant_works _ who).tended
  | slotEnded hslot => exact m.slotBoundary_tended t
  | injected hst => exact m.injectSettled_works.tended
  | silent hli =>
    have h := safeStop_tended ((m.withLi { m.li with silence := none }).raiseFault .linkSilent 0 m.seq.passCounter none)
    simp only [raiseFault_frame] at h
    exact h
  | saved v hv =>
    unfold saveEnd
    dsimp only
    split <;> simpa using Tended.refl _
  | watchBegun ht =>
    unfold watchPassStart
    refine Tended.trans ?_ (leaseRequest_works _ _).tended
    simpa using Tended.refl _
  | _ => simpa [abandon] using Tended.refl _

/-- The channel records after an event come of those before it, or of those of a reset. -/
theorem Event.tended {n m : Node} (h : n.Event m) :
    Tended n.eq.channels m.eq.channels ∨ ∃ t, Tended (freshChannels t) m.eq.channels := by
  cases h with
  | supplied dt =>
    refine .inr ⟨(n.elapse dt).now, ?_⟩
    simpa [powerOnReset, coldReset, cold, freshChannels] using Tended.refl _
  | broken dt => exact .inr ⟨(n.elapse dt).now, .refl _⟩
  | unsupplied dt => exact .inr ⟨(n.elapse dt).now, .refl _⟩
  | released dt hphase => exact .inl (by simpa [elapse] using Tended.refl _)
  | expiry t hdue hx => exact .inl hx.tended
  | symbol dt k y hx => exact .inl (by simpa [elapse] using hx.tended)
  | command f rest ht hx => exact hx.tended

/-! ### The obligations about the switches -/

theorem freshChannels_inRange (t : Nat) : ∀ c ∈ freshChannels t, c.InRange := by
  intro c hc
  obtain ⟨k, -, rfl⟩ := List.mem_map.mp hc
  exact ⟨Nat.zero_le _, Nat.zero_le _, fun _ h => by cases h⟩

theorem freshChannels_nums (t : Nat) : (freshChannels t).map Channel.num = channelNumbers := by
  simp [freshChannels, Channel.initial, Function.comp_def]

end Node

/-- What every event keeps up to its end is kept by a step. -/
theorem step_keeps {P : Node → Prop} (hevent : ∀ n m : Node, P n → n.Event m → P m.finish) {s t : State}
    (hs : P s.toNode) (h : step s = .next t) : P t.toNode := by
  rcases step_cases h with heq | ⟨m, hm, heq⟩
  · rwa [heq]
  · rw [heq]
    exact hevent _ _ hs hm

theorem step_channelRanges {s t : State} (hs : s.ChannelRanges) (h : step s = .next t) : t.ChannelRanges :=
  step_keeps (P := fun n => n.ChannelRanges) (fun n m hn hm => by
    rcases hm.tended with htended | ⟨u, htended⟩
    · exact (htended.trans m.finish_tended).inRange hn
    · exact (htended.trans m.finish_tended).inRange (Node.freshChannels_inRange u)) hs h

theorem step_channelLaw {s t : State} (hs : s.ChannelLaw) (h : step s = .next t) : t.ChannelLaw :=
  step_keeps (P := fun n => n.ChannelLaw) (fun n m hn hm => by
    rcases hm.tended with htended | ⟨u, htended⟩
    · exact (htended.trans m.finish_tended).nums.trans hn
    · exact (htended.trans m.finish_tended).nums.trans (Node.freshChannels_nums u)) hs h

/-- Settles O52: every event ends with the switches that may not stay closed opened (R104). -/
theorem switchesCloseOnlyWhenTheyMay : Obligations.SwitchesCloseOnlyWhenTheyMay := fun _ _ hs h =>
  step_keeps (P := fun n => n.SwitchLaw) (fun _ m _ _ => m.finish_switchLaw) hs h

/-- R103: the windows of two adjacent channels do not meet while duties keep R99. -/
theorem inWindow_adjacent {k d d' slot : Nat} (hd : d ≤ Config.dutyMax) (hd' : d' ≤ Config.dutyMax)
    (h : inWindow k d slot = true) : inWindow (k + 1) d' slot = false := by
  have hmax : Config.dutyMax = 32 := rfl
  by_cases hodd : k % 2 = 1
  · have heven : ¬(k + 1) % 2 = 1 := by omega
    simp only [inWindow, if_pos hodd, decide_eq_true_eq] at h
    simp only [inWindow, if_neg heven, Bool.and_eq_false_iff, decide_eq_false_iff_not]
    omega
  · have hodd' : (k + 1) % 2 = 1 := by omega
    simp only [inWindow, if_neg hodd, Bool.and_eq_true, decide_eq_true_eq] at h
    simp only [inWindow, if_pos hodd', decide_eq_false_iff_not]
    omega

/-- R103: two adjacent channels of a node that keeps R102 and R99 are not both closed. -/
theorem Node.adjacentLaw_of_switchLaw {n : Node} (hswitch : n.SwitchLaw) (hranges : n.ChannelRanges) :
    n.AdjacentLaw := by
  rintro c hc d hd hnum ⟨hcc, hdc⟩
  have hwindow : ∀ x ∈ n.eq.channels, x.closed = true → inWindow x.num x.duty n.eq.slot = true := fun x hx hclosed => by
    have hmay := hswitch x hx hclosed
    simp only [mayClose, Bool.and_eq_true] at hmay
    obtain ⟨⟨⟨⟨-, hw⟩, -⟩, -⟩, -⟩ := hmay
    exact hw
  obtain ⟨hcduty, -⟩ := hranges c hc
  obtain ⟨hdduty, -⟩ := hranges d hd
  have hout := inWindow_adjacent (d' := d.duty) hcduty hdduty (hwindow c hc hcc)
  rw [← hnum, hwindow d hd hdc] at hout
  cases hout

/-- Settles O53: the windows of adjacent channels do not meet (R100, R103). -/
theorem adjacentChannelsAreNeverBothClosed : Obligations.AdjacentChannelsAreNeverBothClosed :=
  fun s t hswitch hranges _ h =>
    Node.adjacentLaw_of_switchLaw (switchesCloseOnlyWhenTheyMay s t hswitch h) (step_channelRanges hranges h)

end Sys2Proof.Machine
end

section
/-! SUPPORT. R44, R59, R186: the tables keep one record for each source in order, and the settings in force, in the image
and in a snapshot keep their values. -/

namespace Sys2Proof.Machine

/-! ### The tables of sources -/

theorem map_source_map {recs : List LimitRec} {g : LimitRec → LimitRec} (hg : ∀ r, (g r).source = r.source) :
    (recs.map g).map LimitRec.source = recs.map LimitRec.source := by
  rw [List.map_map]
  exact List.map_congr_left fun r _ => hg r

theorem map_recordSource_map {rt : List Record} {g : Record → Record} (hg : ∀ r, (g r).source = r.source) :
    (rt.map g).map Record.source = rt.map Record.source := by
  rw [List.map_map]
  exact List.map_congr_left fun r _ => hg r

/-- R64: a judgement is about the record's source. -/
theorem LimitRec.judge_source (r : LimitRec) (v : Int) : (r.judge v).1.source = r.source := by
  unfold LimitRec.judge LimitRec.judgeNormal LimitRec.judgeOut
  (repeat' split) <;> rfl

namespace Node

/-- R44, R59: one record for each source, in order. -/
def TablesLaw (n : Node) : Prop := n.LimitTableLaw ∧ n.ResultTableLaw

theorem TablesLaw.congr {n m : Node} (hlm : m.lm.recs.map LimitRec.source = n.lm.recs.map LimitRec.source)
    (hrt : m.rt.map Record.source = n.rt.map Record.source) (h : n.TablesLaw) : m.TablesLaw :=
  ⟨hlm.trans h.1, hrt.trans h.2⟩

theorem judge_sources (n : Node) (src pass : Nat) (v : Int) :
    (n.judge src pass v).lm.recs.map LimitRec.source = n.lm.recs.map LimitRec.source := by
  unfold judge
  split
  · rfl
  · simp only [applyVerdict_frame, withLm_lm]
    refine map_source_map fun r => ?_
    split
    · exact r.judge_source v
    · rfl

theorem writeResult_tables {n : Node} (h : n.TablesLaw) (w : ResultWrite) : (n.writeResult w).TablesLaw := by
  refine h.congr ?_ ?_
  · have hnote : ∀ m : LimitMonitor, (m.note w.source).recs = m.recs := fun m => by
      unfold LimitMonitor.note
      split <;> rfl
    unfold writeResult
    rw [judge_sources, withLm_lm, hnote]
    rfl
  · unfold writeResult modifyRecord
    simp only [judge_frame, withLm_rt, withRt_rt]
    refine map_recordSource_map fun r => ?_
    split <;> rfl

theorem Move.tables {n m : Node} (hm : n.Move m) (h : n.TablesLaw) : m.TablesLaw := by
  cases hm with
  | resultWritten w => exact writeResult_tables h w
  | resultsAged =>
    refine h.congr ?_ ?_
    · simp
    · rw [withRt_rt]
      exact map_recordSource_map fun r => rfl
  | operationEnded hop b reply => cases b <;> exact h.congr (by simp) (by simp)
  | _ => exact h.congr (by simp [LimitMonitor.passStart]) (by simp)

theorem Works.tables {n m : Node} (hm : n.Works m) (h : n.TablesLaw) : m.TablesLaw :=
  hm.keeps (P := TablesLaw) (fun _ _ => Move.tables) h

theorem watchDecide_tables {n : Node} (h : n.TablesLaw) : n.watchDecide.TablesLaw := h.congr (by simp) (by simp)

theorem loadLimits_sources (n : Node) (cfg : Nat → LimitCfg) :
    (n.loadLimits cfg).lm.recs.map LimitRec.source = n.lm.recs.map LimitRec.source :=
  map_source_map fun r => by split <;> rfl

theorem applyLoad_tables {n : Node} (h : n.TablesLaw) : n.applyLoad.TablesLaw := by
  unfold applyLoad
  split
  · refine h.congr ?_ ?_
    · simp only [withCu_lm]
      exact loadLimits_sources _ _
    · simp [loadLimits]
  · refine h.congr ?_ (by simp [loadLimits])
    simp only [raiseFault_frame, withCu_lm]
    exact loadLimits_sources _ _

theorem started_tables {n : Node} (h : n.TablesLaw) : n.started.TablesLaw :=
  (applyLoad_tables h).congr (by simp [started]) (by simp [started])

theorem seqStop_tables {n : Node} (h : n.TablesLaw) : n.seqStop.TablesLaw := n.seqStop_works.tables h

theorem write_sources (m : LimitMonitor) (srcs : List Nat) (cfg : Nat → LimitCfg) :
    (m.write srcs cfg).recs.map LimitRec.source = m.recs.map LimitRec.source :=
  map_source_map fun r => by split <;> rfl

theorem Taken.tables {f : Frame} {n m : Node} (hm : n.Taken f m) (h : n.TablesLaw) : m.TablesLaw := by
  cases hm with
  | nodeReset =>
    refine ⟨?_, ?_⟩
    · have hsources : n.softReset.lm.recs.map LimitRec.source = n.lm.recs.map LimitRec.source := by
        have hlm : n.softReset.lm = n.cuSoftReset.lmSoftReset.lm := by
          simp [softReset_def, chSoftReset, eqSoftReset, softCleared, lmSoftReset]
        rw [hlm]
        exact map_source_map fun r => rfl
      unfold LimitTableLaw
      simp only [answer_frame]
      exact hsources.trans h.1
    · simp [softReset_def, chSoftReset, eqSoftReset, softCleared, lmSoftReset, ResultTableLaw, initialRecords,
        Function.comp_def]
  | populationSet v hv hallowed =>
    refine h.congr ?_ ?_
    · simp only [answer_frame]
      exact map_source_map fun r => by split <;> rfl
    · simp only [answer_frame]
      exact map_recordSource_map fun r => by split <;> rfl
  | limitsSet srcs cfg => exact h.congr (by simpa using write_sources _ _ _) (by simp)
  | defaultsRestored hd =>
    refine h.congr ?_ (by simp [restoreDefaults])
    simp only [answer_frame, restoreDefaults, silenceRestart_frame]
    exact write_sources _ _ _
  | scanStarted hst hmu => exact ((n.passStart_works true).tables h).congr (by simp) (by simp)
  | scanStopped => exact (seqStop_tables h).congr (by simp) (by simp)
  | extremaCleared srcs =>
    refine h.congr (by simp) ?_
    simp only [answer_frame]
    exact map_recordSource_map fun r => by split <;> rfl
  | operationAccepted b hb => exact (acceptOperation_works f b n).tables h
  | operationAborted o ho => exact (abortOperation_works o _).tables (h.congr (by simp) (by simp))
  | standbyEntered hmu hw => exact h.congr (by simp) (by simp)
  | saveBegun hss => exact h
  | _ => exact h.congr (by simp) (by simp)

theorem Expired.tables {n m e : Node} {t : Nat} (he : n.Expired t m e) (h : m.TablesLaw) : e.TablesLaw := by
  cases he with
  | loaded hphase => exact (autostart_works _).tables (started_tables h)
  | settled hst => exact m.enterIdle_works.tables h
  | recovered hst => exact m.enterIdle_works.tables h
  | converted c reading hst ht =>
    have hidle := m.conversionEnds_works.tables h
    obtain ⟨x, hx, heq | heq⟩ := m.conversionEnds.deliver_works (c.sample reading)
    · rw [heq]
      exact hx.tables hidle
    · rw [heq]
      exact watchDecide_tables (hx.tables hidle)
  | passDue hst hmu => exact (m.passStart_works false).tables h
  | quietGranted who r hr ht => exact (actOnGrant_works _ who).tables h
  | injected hst => exact m.injectSettled_works.tables h
  | saved v hv =>
    unfold saveEnd
    dsimp only
    split <;> exact h.congr (by simp) (by simp)
  | watchBegun ht =>
    refine (leaseRequest_works _ _).tables (h.congr ?_ ?_)
    · simp [LimitMonitor.passStart]
    · simp
  | silent hli => exact h.congr (by simp [linkSilence]) (by simp [linkSilence])
  | _ => exact h.congr (by simp [abandon]) (by simp [abandon])

theorem cold_tables (t : Nat) (identity : Identity) (image : Option Image) (cause : ResetCause) (phase : Phase) :
    (cold t identity image cause phase).TablesLaw := by
  constructor <;> simp [LimitTableLaw, ResultTableLaw, cold, initialRecords, LimitRec.initial, Function.comp_def]

/-- R44, R59: an event keeps one record for each source in the two tables. -/
theorem Event.tables {n m : Node} (hm : n.Event m) (h : n.TablesLaw) : m.TablesLaw := by
  cases hm with
  | supplied dt =>
    exact TablesLaw.congr (by simp [powerOnReset]; rfl) (by simp [powerOnReset]; rfl)
      (cold_tables (n.elapse dt).now n.identity n.ss.image .powerOn (.loading ((n.elapse dt).now + Config.loadTime)))
  | broken dt => exact cold_tables _ _ _ _ _
  | unsupplied dt => exact cold_tables _ _ _ _ _
  | released dt hphase => exact h.congr (by simp [elapse]) (by simp [elapse])
  | expiry t hdue he => exact he.tables h
  | symbol dt k y he =>
    have hy : ((n.elapse dt).noteSymbol k y).TablesLaw := h.congr (by simp [elapse]) (by simp [elapse])
    cases he <;> exact hy.congr (by simp [abandon]) (by simp [abandon])
  | command f rest ht he => exact he.tables h

theorem finish_tables {n : Node} (h : n.TablesLaw) : n.finish.TablesLaw := h.congr (by simp) (by simp)

/-! ### The settings -/

theorem legal_factory : Settings.factory.Legal := by
  refine ⟨by decide, by decide, by decide, by decide, by decide, by decide, by decide, by decide, ?_, ?_, ?_, ?_⟩ <;>
    exact ⟨by decide, by decide, fun c hc => by cases hc⟩

theorem SettingsLaw.congr {n m : Node} (hcfg : m.cfg = n.cfg) (hss : m.ss = n.ss) (h : n.SettingsLaw) :
    m.SettingsLaw := by
  unfold SettingsLaw
  rwa [hcfg, hss]

theorem Works.cfg_ss {n m : Node} (hm : n.Works m) : m.cfg = n.cfg ∧ m.ss = n.ss :=
  hm.keeps (P := fun m => m.cfg = n.cfg ∧ m.ss = n.ss)
    (fun a b hab ha => by
      cases hab with
      | operationEnded hop b reply => cases b <;> simpa using ha
      | _ => simpa using ha)
    ⟨rfl, rfl⟩

theorem SettingsLaw.withCfg {n : Node} {c : Settings} (h : n.SettingsLaw) (hc : n.cfg.Legal → c.Legal) :
    (n.withCfg c).SettingsLaw :=
  ⟨hc h.1, h.2⟩

theorem applyLoad_settings {n : Node} (h : n.SettingsLaw) : n.applyLoad.SettingsLaw := by
  obtain ⟨-, himage, hsaving⟩ := h
  unfold applyLoad
  split
  · rename_i im him
    exact ⟨himage im him, himage, hsaving⟩
  · refine SettingsLaw.congr (n := n.withCfg Settings.factory) (by simp [loadLimits]) (by simp [loadLimits]) ?_
    exact ⟨legal_factory, himage, hsaving⟩

theorem Taken.settings {f : Frame} {n m : Node} (hm : n.Taken f m) (h : n.SettingsLaw) : m.SettingsLaw := by
  cases hm with
  | nodeReset =>
    exact h.congr (by simp [softReset_def, chSoftReset, eqSoftReset, softCleared, lmSoftReset, cuSoftReset])
      (by simp [softReset_def, chSoftReset, eqSoftReset, softCleared, lmSoftReset, cuSoftReset])
  | populationSet v hv hallowed =>
    have hpop : (n.withCfg { n.cfg with population := v }).SettingsLaw := h.withCfg fun ⟨_, hrest⟩ => ⟨hv, hrest⟩
    exact hpop.congr (by simp [changePopulation]) (by simp [changePopulation])
  | settingsSet c hc => exact (h.withCfg hc).congr (by simp) (by simp)
  | silenceSet v hv =>
    have hset : (n.withCfg { n.cfg with silenceTimeout := v }).SettingsLaw :=
      h.withCfg fun ⟨hpop, hsum, hquiet, hframe, _, hrest⟩ => ⟨hpop, hsum, hquiet, hframe, hv, hrest⟩
    exact hset.congr (by simp) (by simp)
  | alertsOff =>
    have hset : (n.withCfg { n.cfg with alertEnable := false }).SettingsLaw := h.withCfg id
    exact hset.congr (by simp) (by simp)
  | saveBegun hss =>
    obtain ⟨hcfg, -, -⟩ := h
    exact ⟨hcfg, by simp [beginSave], by simpa [beginSave, snapshot] using hcfg⟩
  | defaultsRestored hd =>
    have hset : (n.withCfg Settings.factory).SettingsLaw := h.withCfg fun _ => legal_factory
    exact hset.congr (by simp [restoreDefaults]) (by simp [restoreDefaults])
  | operationAccepted b hb => exact h.congr (acceptOperation_works f b n).cfg_ss.1 (acceptOperation_works f b n).cfg_ss.2
  | operationAborted o ho =>
    obtain ⟨hcfg, hss⟩ := (abortOperation_works o (n.answer f .ok [])).cfg_ss
    exact h.congr (by simp [hcfg]) (by simp [hss])
  | _ => exact h.congr (by simp) (by simp)

theorem Expired.settings {n m e : Node} {t : Nat} (he : n.Expired t m e) (hss : m.ss = n.ss) (h : m.SettingsLaw) :
    e.SettingsLaw := by
  cases he with
  | loaded hphase =>
    have hstarted : m.started.SettingsLaw := (applyLoad_settings h).congr (by simp [started]) (by simp [started])
    obtain ⟨hcfg, hss⟩ := (autostart_works m.started).cfg_ss
    exact hstarted.congr hcfg hss
  | quietGranted who r hr ht =>
    obtain ⟨hcfg, hss⟩ := (actOnGrant_works (m.withEq { m.eq with
      quiet := m.eq.quiet.set who (some { r with granted := true }) }) who).cfg_ss
    exact h.congr hcfg hss
  | injected hst => exact h.congr m.injectSettled_works.cfg_ss.1 m.injectSettled_works.cfg_ss.2
  | saved v hv =>
    have hsaved : (m.withSs { image := some v.snapshot, saving := none }).SettingsLaw := by
      refine ⟨h.1, fun im him => ?_, fun _ hx => by cases hx⟩
      cases him
      exact h.2.2 v (hss ▸ hv)
    unfold saveEnd
    dsimp only
    split <;> exact hsaved.congr (by simp) (by simp)
  | silent hli => exact h.congr (by simp [linkSilence]) (by simp [linkSilence])
  | _ => exact h.congr (by simp [abandon]) (by simp [abandon])

/-- R186, R188, R189: an event keeps the settings legal. -/
theorem Event.settings {n m : Node} (hm : n.Event m) (h : n.SettingsLaw) : m.SettingsLaw := by
  have hcold : ∀ (t : Nat) (cause : ResetCause) (phase : Phase),
      (cold t n.identity n.ss.image cause phase).SettingsLaw :=
    fun _ _ _ => ⟨legal_factory, h.2.1, fun _ hx => by cases hx⟩
  cases hm with
  | supplied dt =>
    exact SettingsLaw.congr (by simp [powerOnReset]; rfl) (by simp [powerOnReset]; rfl)
      (hcold (n.elapse dt).now .powerOn (.loading ((n.elapse dt).now + Config.loadTime)))
  | broken dt => exact hcold _ _ _
  | unsupplied dt => exact hcold _ _ _
  | released dt hphase => exact h.congr (by simp [elapse]) (by simp [elapse])
  | expiry t hdue he => exact he.settings rfl h
  | symbol dt k y he =>
    have hy : ((n.elapse dt).noteSymbol k y).SettingsLaw := h.congr (by simp [elapse]) (by simp [elapse])
    cases he <;> exact hy.congr (by simp [abandon]) (by simp [abandon])
  | command f rest ht he => exact he.settings h

theorem finish_settings {n : Node} (h : n.SettingsLaw) : n.finish.SettingsLaw := h.congr (by simp) (by simp)

end Node

/-- Settles O59: the settings, the channels and the two tables, each by its own invariant. -/
theorem settingsAndRecordsStayLegal : Obligations.SettingsAndRecordsStayLegal := by
  intro s t hsettings hranges hchannels hlimits hresults h
  obtain ⟨hlimits', hresults'⟩ := step_keeps (P := Node.TablesLaw) (fun _ _ hn hm => Node.finish_tables (hm.tables hn))
    ⟨hlimits, hresults⟩ h
  exact ⟨step_keeps (P := Node.SettingsLaw) (fun _ _ hn hm => Node.finish_settings (hm.settings hn)) hsettings h,
    step_channelRanges hranges h, step_channelLaw hchannels h, hlimits', hresults'⟩

end Sys2Proof.Machine
end

section
/-! SUPPORT. Log entry 4: the clock. Block by block, no timer's expiry lies before the moment; every operation arms its
timers for the moment or later. -/

namespace Sys2Proof.Machine

/-! ### The timers of each block -/

/-- The converter's timer is not over at `t`. -/
def ConversionUnit.Timely (x : ConversionUnit) (t : Nat) : Prop := ∀ d ∈ x.st.expiry, t ≤ d

/-- The due time watched in PASS_GAP is not over at `t`. -/
def Sequencer.Timely (x : Sequencer) (t : Nat) : Prop := ∀ d ∈ x.armedDue, t ≤ d

/-- No waiting grant time and no slot is over at `t`. -/
def Equalizer.Timely (x : Equalizer) (t : Nat) : Prop :=
  (∀ who, ∀ r ∈ x.quiet.get who, r.granted = false → t ≤ r.grantAt) ∧ ∀ d ∈ x.slotEnd, t ≤ d

/-- The injection settle is not over at `t`. -/
def MaintenanceUnit.Timely (x : MaintenanceUnit) (t : Nat) : Prop := ∀ d ∈ x.st.expiry, t ≤ d

/-- Neither the silence timer, nor a transmission, nor the latest end of a symbol to come is over at `t`. -/
def LinkInterface.Timely (x : LinkInterface) (t : Nat) : Prop :=
  (∀ d ∈ x.silence, t ≤ d) ∧ (∀ d ∈ x.txN, t ≤ d) ∧ (∀ s ∈ x.txS, t ≤ s.endsAt) ∧ ∀ k, ∀ d ∈ (x.lane k).latest, t ≤ d

/-- The save in progress is not over at `t`. -/
def SettingsStore.Timely (x : SettingsStore) (t : Nat) : Prop := ∀ v ∈ x.saving, t ≤ v.endsAt

/-- Neither the watch timer nor the start-up phase is over at `t`. -/
def PowerController.Timely (x : PowerController) (t : Nat) : Prop :=
  (∀ d ∈ x.watchTimer, t ≤ d) ∧ ∀ d ∈ x.phase.expiry, t ≤ d

namespace Node

/-- No timer of the node is over. -/
def Timely (n : Node) : Prop :=
  n.cu.Timely n.now ∧ n.seq.Timely n.now ∧ n.eq.Timely n.now ∧ n.mu.Timely n.now ∧ n.li.Timely n.now
    ∧ n.ss.Timely n.now ∧ n.pc.Timely n.now

/-- The expiry of the alert holdoff is armed only while it lies ahead (R181). -/
theorem now_le_alertExpiry (n : Node) : ∀ d ∈ n.alertExpiry, n.now ≤ d := by
  intro d hd
  simp only [alertExpiry] at hd
  split at hd
  · rename_i h
    simp only [Bool.and_eq_true, Bool.not_eq_true'] at h
    obtain ⟨hwanted, hdue⟩ := h
    have hend : n.holdoffEnd = some d := hd
    simp only [alertDue, hwanted, hend, Bool.true_and, decide_eq_false_iff_not] at hdue
    omega
  · cases hd

theorem mem_deadlines_iff (n : Node) (d : Nat) : d ∈ n.deadlines ↔
    d ∈ n.cu.st.expiry ∨ d ∈ n.seq.armedDue
      ∨ (∃ who, ∃ r ∈ n.eq.quiet.get who, r.granted = false ∧ r.grantAt = d)
      ∨ d ∈ n.eq.slotEnd ∨ d ∈ n.mu.st.expiry ∨ d ∈ n.li.silence ∨ (∃ v ∈ n.ss.saving, v.endsAt = d)
      ∨ d ∈ n.pc.watchTimer ∨ d ∈ n.pc.phase.expiry ∨ d ∈ n.li.txN ∨ (∃ x ∈ n.li.txS, x.endsAt = d)
      ∨ d ∈ n.alertExpiry ∨ ∃ k, d ∈ (n.li.lane k).latest := by
  have hquiet : (∃ who, ∃ r ∈ n.eq.quiet.get who, r.granted = false ∧ r.grantAt = d)
      ↔ (∃ r, n.eq.quiet.seq = some r ∧ r.waitingUntil = some d) ∨ (∃ r, n.eq.quiet.mu = some r ∧ r.waitingUntil = some d)
        ∨ ∃ r, n.eq.quiet.watch = some r ∧ r.waitingUntil = some d := by
    have hwait : ∀ r : QuietReq, r.waitingUntil = some d ↔ r.granted = false ∧ r.grantAt = d := fun r => by
      cases h : r.granted <;> simp [QuietReq.waitingUntil, h]
    simp only [hwait]
    constructor
    · rintro ⟨who, r, hr, h⟩
      cases who
      · exact .inl ⟨r, hr, h⟩
      · exact .inr (.inl ⟨r, hr, h⟩)
      · exact .inr (.inr ⟨r, hr, h⟩)
    · rintro (⟨r, hr, h⟩ | ⟨r, hr, h⟩ | ⟨r, hr, h⟩)
      · exact ⟨.seq, r, hr, h⟩
      · exact ⟨.mu, r, hr, h⟩
      · exact ⟨.watch, r, hr, h⟩
  have hlanes : (∃ k, d ∈ (n.li.lane k).latest) ↔ d ∈ n.li.laneRxS.latest ∨ d ∈ n.li.laneRxN.latest
      ∨ d ∈ n.li.laneTxS.latest ∨ d ∈ n.li.laneTxN.latest := by
    constructor
    · rintro ⟨k, h⟩
      cases k
      · exact .inl h
      · exact .inr (.inl h)
      · exact .inr (.inr (.inl h))
      · exact .inr (.inr (.inr h))
    · rintro (h | h | h | h)
      · exact ⟨.rxS, h⟩
      · exact ⟨.rxN, h⟩
      · exact ⟨.txS, h⟩
      · exact ⟨.txN, h⟩
  rw [hquiet, hlanes]
  simp only [deadlines, List.mem_append, Option.mem_toList, Option.mem_def, Option.bind_eq_some_iff,
    Option.map_eq_some_iff, or_assoc]

/-- At a moment no expiry lies before, no timer is over. -/
theorem timely_withNow {n : Node} {t : Nat} (h : ∀ d ∈ n.deadlines, t ≤ d) : (n.withNow t).Timely := by
  simp only [mem_deadlines_iff, or_imp, forall_and] at h
  obtain ⟨hcu, hseq, hquiet, hslot, hmu, hsilence, hss, hwatch, hphase, htxN, htxS, -, hlanes⟩ := h
  exact ⟨hcu, hseq, ⟨fun who r hr hg => hquiet _ ⟨who, r, hr, hg, rfl⟩, hslot⟩, hmu,
    ⟨hsilence, htxN, fun s hs => htxS _ ⟨s, hs, rfl⟩, fun k d hd => hlanes d ⟨k, hd⟩⟩,
    fun v hv => hss _ ⟨v, hv, rfl⟩, hwatch, hphase⟩

theorem timeLaw_of_timely {n : Node} (h : n.Timely) : n.TimeLaw := by
  obtain ⟨hcu, hseq, ⟨hquiet, hslot⟩, hmu, ⟨hsilence, htxN, htxS, hlanes⟩, hss, hwatch, hphase⟩ := h
  intro d hd
  rw [mem_deadlines_iff] at hd
  obtain hx | hx | ⟨who, r, hr, hg, rfl⟩ | hx | hx | hx | ⟨v, hv, rfl⟩ | hx | hx | hx | ⟨x, hx, rfl⟩ | hx | ⟨k, hx⟩ := hd
  · exact hcu d hx
  · exact hseq d hx
  · exact hquiet who r hr hg
  · exact hslot d hx
  · exact hmu d hx
  · exact hsilence d hx
  · exact hss v hv
  · exact hwatch d hx
  · exact hphase d hx
  · exact htxN d hx
  · exact htxS x hx
  · exact n.now_le_alertExpiry d hx
  · exact hlanes k d hx

/-! ### The moves of the clients -/

theorem quiet_get_set (q : QuietList) (c d : Client) (r : Option QuietReq) :
    (q.set c r).get d = if d = c then r else q.get d := by
  cases c <;> cases d <;> rfl

theorem quietRequest_timely {n : Node} (h : n.eq.Timely n.now) (who : Client) (set : List Nat) :
    (n.quietRequest who set).eq.Timely n.now := by
  refine ⟨fun w r hr _ => ?_, h.2⟩
  simp only [quietRequest, withEq_eq, quiet_get_set] at hr
  split at hr
  · cases hr
    exact le_max_left _ _
  · exact h.1 w r hr (by assumption)

theorem quietRelease_timely {n : Node} (h : n.eq.Timely n.now) (who : Client) :
    (n.quietRelease who).eq.Timely n.now := by
  refine ⟨fun w r hr hg => ?_, h.2⟩
  simp only [quietRelease, withEq_eq, quiet_get_set] at hr
  split at hr
  · cases hr
  · exact h.1 w r hr hg

theorem Works.now_eq {n m : Node} (hm : n.Works m) : m.now = n.now :=
  hm.keeps (P := fun m => m.now = n.now)
    (fun a b hab ha => by
      cases hab with
      | operationEnded hop b reply => cases b <;> simpa using ha
      | _ => simpa using ha)
    rfl

theorem Works.li_eq {n m : Node} (hm : n.Works m) : m.li = n.li :=
  hm.keeps (P := fun m => m.li = n.li)
    (fun a b hab ha => by
      cases hab with
      | operationEnded hop b reply => cases b <;> simpa using ha
      | _ => simpa using ha)
    rfl

/-- R83: a raise writes of the Power Controller the watch-raise mark only. -/
theorem raiseFault_pc (n : Node) (k : FaultKind) (src pass : Nat) (v : Option Int) :
    ∃ w, (n.raiseFault k src pass v).pc = { n.pc with watchRaise := w } := by
  unfold raiseFault noteNews
  dsimp only
  split
  · split
    · exact ⟨true, by simp⟩
    · exact ⟨n.pc.watchRaise, by simp⟩
  · exact ⟨n.pc.watchRaise, rfl⟩

theorem applyVerdict_pc (n : Node) (src pass : Nat) (v : Int) (d : Verdict) :
    ∃ w, (n.applyVerdict src pass v d).pc = { n.pc with watchRaise := w } := by
  cases d with
  | nothing => exact ⟨_, rfl⟩
  | raiseHigh => exact n.raiseFault_pc _ _ _ _
  | raiseLow => exact n.raiseFault_pc _ _ _ _
  | clearHigh => exact ⟨_, rfl⟩
  | clearLow => exact ⟨_, rfl⟩

theorem writeResult_pc (n : Node) (w : ResultWrite) : ∃ x, (n.writeResult w).pc = { n.pc with watchRaise := x } := by
  unfold writeResult judge
  dsimp only
  split
  · exact ⟨n.pc.watchRaise, rfl⟩
  · exact applyVerdict_pc _ _ _ _ _

theorem plausibility_pc (n : Node) (pass : Nat) : ∃ x, (n.plausibility pass).pc = { n.pc with watchRaise := x } := by
  unfold plausibility
  split
  · split
    · exact n.raiseFault_pc _ _ _ _
    · exact ⟨n.pc.watchRaise, rfl⟩
  · exact ⟨n.pc.watchRaise, rfl⟩

theorem railOutcome_pc (n : Node) (r : Range) (u : BitVec 6) :
    ∃ x, (n.railOutcome r u).pc = { n.pc with watchRaise := x } := by
  unfold railOutcome
  split
  · exact n.raiseFault_pc _ _ _ _
  · exact ⟨n.pc.watchRaise, rfl⟩

/-- What a move writes of the Power Controller: the watch pass and its mark. -/
theorem Move.pc_eq {n m : Node} (hm : n.Move m) :
    ∃ x w, m.pc = { n.pc with watchRaise := x, watchPass := w } := by
  have hmark : ∀ {p : PowerController}, (∃ x, p = { n.pc with watchRaise := x }) →
      ∃ x w, p = { n.pc with watchRaise := x, watchPass := w } := fun ⟨x, h⟩ => ⟨x, n.pc.watchPass, h⟩
  cases hm with
  | resultWritten w => exact hmark (n.writeResult_pc w)
  | passChecked pass => exact hmark (n.plausibility_pc pass)
  | railJudged r u => exact hmark (n.railOutcome_pc r u)
  | lineOpened line pass => exact hmark ((n.clearLines (some line)).raiseFault_pc _ _ _ _)
  | watchPass w => exact ⟨n.pc.watchRaise, w, rfl⟩
  | operationEnded hop b reply => cases b <;> exact hmark ⟨n.pc.watchRaise, by simp⟩
  | _ => exact hmark ⟨n.pc.watchRaise, by simp⟩

theorem Move.timely {n m : Node} (hm : n.Move m) (h : n.Timely) : m.Timely := by
  have hnow : m.now = n.now := hm.works.now_eq
  have hli : m.li = n.li := hm.works.li_eq
  obtain ⟨-, hss⟩ := hm.works.cfg_ss
  obtain ⟨x, w, hpc⟩ := hm.pc_eq
  obtain ⟨hcu, hseq, heq, hmu, hlink, hstore, hpower⟩ := h
  suffices hrest : m.cu.Timely n.now ∧ m.seq.Timely n.now ∧ m.eq.Timely n.now ∧ m.mu.Timely n.now by
    obtain ⟨hcu', hseq', heq', hmu'⟩ := hrest
    unfold Timely
    rw [hnow, hli, hss, hpc]
    exact ⟨hcu', hseq', heq', hmu', hlink, hstore, hpower⟩
  cases hm with
  | sequencer x hx => exact ⟨hcu, fun d hd => (hx d hd).elim (hseq d) id, heq, hmu⟩
  | converter x hx => exact ⟨fun d hd => (hx d hd).elim (hcu d) id, hseq, heq, hmu⟩
  | maintenance x hop hx => exact ⟨hcu, hseq, heq, fun d hd => (hx d hd).elim (hmu d) id⟩
  | quietAsked who set => exact ⟨by simpa, by simpa, quietRequest_timely heq who set, by simpa⟩
  | quietLeft who => exact ⟨hcu, hseq, quietRelease_timely heq who, hmu⟩
  | operationEnded hop b reply =>
    have hidle : ({ st := .idle, op := none } : MaintenanceUnit).Timely n.now := fun d hd => by cases hd
    cases b <;> simpa using ⟨hcu, hseq, heq, hidle⟩
  | _ => simpa using ⟨hcu, hseq, heq, hmu⟩

theorem Works.timely {n m : Node} (hm : n.Works m) (h : n.Timely) : m.Timely :=
  hm.keeps (P := Timely) (fun _ _ => Move.timely) h

/-! ### The other operations -/

theorem powerUp_timely {n : Node} (h : n.Timely) : n.powerUp.Timely := by
  unfold powerUp
  split
  · obtain ⟨-, hrest⟩ := h
    refine ⟨fun d hd => ?_, hrest⟩
    cases hd
    exact Nat.le_add_right _ _
  · exact h

theorem powerDown_timely {n : Node} (h : n.Timely) : n.powerDown.Timely := by
  obtain ⟨-, hrest⟩ := h
  exact ⟨fun d hd => (by cases hd), hrest⟩

theorem silenceRestart_timely {n : Node} (h : n.Timely) : n.silenceRestart.Timely := by
  obtain ⟨hcu, hseq, heq, hmu, ⟨-, hlink⟩, hstore, hpower⟩ := h
  refine ⟨hcu, hseq, heq, hmu, ⟨fun d hd => ?_, hlink⟩, hstore, hpower⟩
  simp only [silenceRestart, withLi_li, clearFault_frame, withLi_now] at hd ⊢
  split at hd
  · cases hd
  · cases hd
    exact Nat.le_add_right _ _

theorem raiseFault_timely {n : Node} (h : n.Timely) (k : FaultKind) (src pass : Nat) (v : Option Int) :
    (n.raiseFault k src pass v).Timely := by
  obtain ⟨w, hpc⟩ := n.raiseFault_pc k src pass v
  obtain ⟨hcu, hseq, heq, hmu, hlink, hstore, hpower⟩ := h
  unfold Timely
  rw [hpc]
  simpa using ⟨hcu, hseq, heq, hmu, hlink, hstore, hpower⟩

/-- An Equalizer with its quiet requests as they were and its slot ending at the moment or later. -/
theorem withEq_timely {n : Node} (h : n.Timely) {e : Equalizer} (hquiet : e.quiet = n.eq.quiet)
    (hslot : e.slotEnd = n.eq.slotEnd ∨ ∀ d ∈ e.slotEnd, n.now ≤ d) : (n.withEq e).Timely := by
  obtain ⟨hcu, hseq, ⟨hreq, hend⟩, hrest⟩ := h
  refine ⟨hcu, hseq, ⟨fun who r hr => hreq who r (by rwa [withEq_eq, hquiet] at hr), fun d hd => ?_⟩, hrest⟩
  rcases hslot with hsame | hlater
  · exact hend d (hsame ▸ hd)
  · exact hlater d hd

theorem restartFrame_timely {n : Node} (h : n.Timely) (st : Equalizer → EqState) : (n.restartFrame st).Timely := by
  have hw := withEq_timely h (e := (n.restartFrame st).eq) (by rw [restartFrame_eq]; rfl)
    (.inr fun d hd => by
      rw [restartFrame_eq] at hd
      cases hd
      exact Nat.le_add_right _ _)
  simpa [Timely] using hw

theorem preStandby_timely {n : Node} (h : n.Timely) (p : Option EqState) :
    (n.withEq { n.eq with preStandby := p }).Timely := h

theorem eqWake_of_disabled {n : Node} (h : n.eq.st = .disabled) (w : Bool) :
    n.eqWake w = (n.restartFrame (wakeState w n.eq.preStandby)).withEq
      { (n.restartFrame (wakeState w n.eq.preStandby)).eq with preStandby := none } := by
  unfold eqWake
  rw [if_pos h]
  rfl

theorem eqWake_timely {n : Node} (h : n.Timely) (w : Bool) : (n.eqWake w).Timely := by
  by_cases hst : n.eq.st = .disabled
  · have hrestart := preStandby_timely (restartFrame_timely h (wakeState w n.eq.preStandby)) none
    rwa [← eqWake_of_disabled hst] at hrestart
  · rwa [eqWake_of_ne hst]

theorem withPower_timely {n : Node} (h : n.Timely) (p : PowerState) : (n.withPc { n.pc with power := p }).Timely := h

theorem addReason_timely {n : Node} (h : n.Timely) (f : AlertReasons → AlertReasons) : (n.addReason f).Timely := by
  simpa [Timely] using h

theorem startWatchTimer_timely {n : Node} (h : n.Timely) : n.startWatchTimer.Timely := by
  obtain ⟨hcu, hseq, heq, hmu, hlink, hstore, -, hphase⟩ := h
  refine ⟨hcu, hseq, heq, hmu, hlink, hstore, fun d hd => ?_, hphase⟩
  simp only [startWatchTimer, withPc_pc] at hd
  split at hd
  · cases hd
  · cases hd
    exact Nat.le_add_right _ _

theorem frameWake_timely {n : Node} (h : n.Timely) : n.frameWake.Timely := by
  obtain ⟨hcu, hseq, heq, hmu, hlink, hstore, -, hphase⟩ := h
  have hpower : (n.withPc { n.pc with power := .active, watchTimer := none }).Timely :=
    ⟨hcu, hseq, heq, hmu, hlink, hstore, fun _ hd => (by cases hd), hphase⟩
  exact silenceRestart_timely (eqWake_timely (powerUp_timely hpower) _)

theorem watchDecide_timely {n : Node} (h : n.Timely) : n.watchDecide.Timely := by
  unfold watchDecide
  split
  · split
    · exact silenceRestart_timely (eqWake_timely (addReason_timely (withPower_timely h _) _) _)
    · exact startWatchTimer_timely (powerDown_timely h)
  · exact h
  · exact h

theorem deliver_timely {n : Node} (h : n.Timely) (v : Int) : (n.deliver v).Timely := by
  obtain ⟨m, hm, heq | heq⟩ := n.deliver_works v
  · rw [heq]
    exact hm.timely h
  · rw [heq]
    exact watchDecide_timely (hm.timely h)

theorem eqDisable_timely {n : Node} (h : n.Timely) : n.eqDisable.Timely :=
  withEq_timely h rfl (.inr fun _ hd => (by cases hd))

theorem silenceOff_timely {n : Node} (h : n.Timely) : (n.withLi { n.li with silence := none }).Timely := by
  obtain ⟨hcu, hseq, heq, hmu, ⟨-, hlink⟩, hstore, hpower⟩ := h
  exact ⟨hcu, hseq, heq, hmu, ⟨fun _ hd => (by cases hd), hlink⟩, hstore, hpower⟩

theorem asleep_timely {n : Node} (h : n.Timely) : n.asleep.Timely := by
  have hdown := powerDown_timely (eqDisable_timely (n.seqStop_works.timely h))
  have hpower := withPower_timely (silenceOff_timely hdown) .standby
  exact startWatchTimer_timely hpower

theorem enterStandby_timely {n : Node} (h : n.Timely) : n.enterStandby.Timely := by
  rw [enterStandby_eq]
  split
  · exact asleep_timely h
  · exact frameWake_timely (asleep_timely h)

theorem started_timely {n : Node} (h : n.Timely) : n.started.Timely := by
  have hload : n.applyLoad.Timely := by
    unfold applyLoad
    split
    · exact h
    · refine raiseFault_timely ?_ _ _ _ _
      exact h
  obtain ⟨hcu, hseq, heq, hmu, hlink, hstore, hwatch, -⟩ := hload
  have hactive : (n.applyLoad.withPc { n.applyLoad.pc with power := .active, phase := .complete }).Timely :=
    ⟨hcu, hseq, heq, hmu, hlink, hstore, hwatch, fun _ hd => (by cases hd)⟩
  exact silenceRestart_timely (restartFrame_timely hactive _)

theorem slotBoundary_timely {n : Node} (h : n.Timely) {t : Nat} (ht : n.now ≤ t) : (n.slotBoundary t).Timely := by
  have hquiet : (n.slotBoundary t).eq.quiet = n.eq.quiet := by
    rw [slotBoundary_eq, beginSlot_eq]
    split <;> simp [Equalizer.closing, Equalizer.stagedApplied, endSlot_eq]
  have hw := withEq_timely h hquiet (.inr fun d hd => by
    rw [slotBoundary_eq, beginSlot_eq] at hd
    cases hd
    exact ht.trans (Nat.le_add_right _ _))
  simpa [Timely] using hw

theorem safeStop_timely {n : Node} (h : n.Timely) : n.safeStop.Timely := by
  unfold safeStop
  split
  · exact withEq_timely h rfl (.inl rfl)
  · exact withEq_timely h rfl (.inl rfl)
  · exact h
  · exact h

theorem beginStartUp_timely {n : Node} (h : n.Timely) : n.beginStartUp.Timely := by
  obtain ⟨hcu, hseq, heq, hmu, ⟨hsilence, htxN, htxS, -⟩, hstore, hwatch, -⟩ := h
  refine powerUp_timely ⟨hcu, hseq, heq, hmu, ⟨hsilence, htxN, htxS, fun k d hd => ?_⟩, hstore, hwatch, fun d hd => ?_⟩
  · cases k <;> cases hd
  · cases hd
    exact Nat.le_add_right _ _

theorem cold_timely {t : Nat} {phase : Phase} (hphase : ∀ d ∈ phase.expiry, t ≤ d) (identity : Identity)
    (image : Option Image) (cause : ResetCause) : (cold t identity image cause phase).Timely := by
  refine ⟨fun d hd => (by cases hd), fun d hd => (by cases hd), ⟨fun who r hr => ?_, fun d hd => (by cases hd)⟩,
    fun d hd => (by cases hd), ⟨fun d hd => (by cases hd), fun d hd => (by cases hd), fun s hs => (by cases hs),
      fun k d hd => ?_⟩, fun v hv => (by cases hv), fun d hd => (by cases hd), hphase⟩
  · cases who <;> cases hr
  · cases k <;> cases hd

theorem eqCleared_timely {n : Node} (h : n.Timely) : n.eqCleared.Timely := by
  obtain ⟨hcu, hseq, heq, hrest⟩ := h
  refine ⟨hcu, hseq, ⟨fun who r hr => ?_, heq.2⟩, hrest⟩
  cases who <;> cases hr

theorem cuSoftReset_timely {n : Node} (h : n.Timely) : n.cuSoftReset.Timely := by
  obtain ⟨hcu, hrest⟩ := h
  refine ⟨fun d hd => ?_, hrest⟩
  simp only [cuSoftReset, withCu_cu] at hd
  cases hst : n.cu.st with
  | converting c =>
    rw [hst] at hd
    cases hd
    exact Nat.le_add_right _ _
  | _ => exact hcu d (by simpa [hst] using hd)

theorem softCleared_timely {n : Node} (h : n.Timely) : n.softCleared.Timely := by
  obtain ⟨hcu, -, heq, -, hlink, hstore, -, hphase⟩ := cuSoftReset_timely h
  refine ⟨hcu, ?_, heq, ?_, hlink, hstore, ?_, hphase⟩
  · exact fun d hd => (by cases hd)
  · exact fun d hd => (by cases hd)
  · exact fun d hd => (by cases hd)

theorem softReset_timely {n : Node} (h : n.Timely) : n.softReset.Timely := by
  have hcleared := eqCleared_timely (softCleared_timely h)
  have hrestart := silenceRestart_timely (restartFrame_timely hcleared Equalizer.adjusted)
  obtain ⟨hcu, hseq, heq, hmu, hlink, hrest⟩ := hrestart
  exact ⟨hcu, hseq, heq, hmu, hlink, hrest⟩

/-! ### The Link Interface -/

/-- A lane whose receiver starts behind a symbol that ends at the moment is timely. -/
theorem latest_of_now {l : LaneState} {t : Nat} (h : l.lastEnd = t) : ∀ d ∈ l.latest, t ≤ d := by
  intro d hd
  unfold LaneState.latest at hd
  split at hd
  · cases hd
    omega
  · cases hd

theorem lane_setLane (l : LinkInterface) (k j : Lane) (x : LaneState) :
    (l.setLane k x).lane j = if j = k then x else l.lane j := by
  cases k <;> cases j <;> rfl

theorem setLane_timely {l : LinkInterface} {t : Nat} (h : l.Timely t) {k : Lane} {x : LaneState}
    (hx : ∀ d ∈ x.latest, t ≤ d) : (l.setLane k x).Timely t := by
  obtain ⟨hsilence, htxN, htxS, hlanes⟩ := h
  have hsame : (l.setLane k x).silence = l.silence ∧ (l.setLane k x).txN = l.txN ∧ (l.setLane k x).txS = l.txS := by
    cases k <;> exact ⟨rfl, rfl, rfl⟩
  obtain ⟨h1, h2, h3⟩ := hsame
  refine ⟨h1 ▸ hsilence, h2 ▸ htxN, h3 ▸ htxS, fun j d hd => ?_⟩
  rw [lane_setLane] at hd
  split at hd
  · exact hx d hd
  · exact hlanes j d hd

theorem rxSHigh_timely {l : LinkInterface} {t : Nat} (h : l.Timely t) (high : Nat) :
    ({ l with rxSHigh := high } : LinkInterface).Timely t := by
  obtain ⟨hsilence, htxN, htxS, hlanes⟩ := h
  refine ⟨hsilence, htxN, htxS, fun k d hd => hlanes k d ?_⟩
  cases k <;> exact hd

theorem withLi_timely {n : Node} (h : n.Timely) {l : LinkInterface} (hl : l.Timely n.now) : (n.withLi l).Timely := by
  obtain ⟨hcu, hseq, heq, hmu, -, hrest⟩ := h
  exact ⟨hcu, hseq, heq, hmu, hl, hrest⟩

theorem modifyLane_timely {n : Node} (h : n.Timely) {k : Lane} {f : LaneState → LaneState}
    (hx : ∀ d ∈ (f (n.li.lane k)).latest, n.now ≤ d) : (n.modifyLane k f).Timely :=
  withLi_timely h (setLane_timely h.2.2.2.2.1 hx)

/-- A lane whose receiver and last end are kept is as timely as before. -/
theorem countLane_timely {n : Node} (h : n.Timely) (k : Lane) (c : LaneCounters → LaneCounters) :
    (n.modifyLane k fun l => l.count c).Timely :=
  modifyLane_timely h (h.2.2.2.2.1.2.2.2 k)

theorem abandon_timely {n : Node} (h : n.Timely) {k : Lane} {rx : Receiver}
    (hx : rx = .hunt ∨ (n.li.lane k).lastEnd = n.now) (c : LaneCounters → LaneCounters) : (n.abandon k rx c).Timely := by
  refine countLane_timely (modifyLane_timely h ?_) _ _
  rcases hx with rfl | hnow
  · exact fun d hd => by cases hd
  · exact latest_of_now hnow

theorem setReceiver_timely {n : Node} (h : n.Timely) {k : Lane} {rx : Receiver}
    (hx : rx = .hunt ∨ (n.li.lane k).lastEnd = n.now) : (n.setReceiver k rx).Timely := by
  refine modifyLane_timely h ?_
  rcases hx with rfl | hnow
  · exact fun d hd => by cases hd
  · exact latest_of_now hnow

theorem noteSymbol_li (n : Node) (k : Lane) (y : LineSymbol) :
    ∃ x : LaneState, x.lastEnd = n.now ∧ ∃ high, (n.noteSymbol k y).li = { n.li.setLane k x with rxSHigh := high } := by
  refine ⟨{ n.li.lane k with
    lastEnd := n.now
    waiting := !y.stops
    counters := if y.noisy then { (n.li.lane k).counters with noise := linkInc (n.li.lane k).counters.noise }
      else (n.li.lane k).counters }, rfl, ?_⟩
  unfold noteSymbol
  dsimp only
  split
  · exact ⟨_, rfl⟩
  · exact ⟨_, rfl⟩

theorem noteSymbol_timely {n : Node} (h : n.Timely) (k : Lane) (y : LineSymbol) : (n.noteSymbol k y).Timely := by
  obtain ⟨x, hx, high, hli⟩ := n.noteSymbol_li k y
  obtain ⟨hcu, hseq, heq, hmu, hlink, hstore, hpower⟩ := h
  have hlane : ({ n.li.setLane k x with rxSHigh := high } : LinkInterface).Timely n.now :=
    rxSHigh_timely (setLane_timely hlink (latest_of_now hx)) high
  have hnow : (n.noteSymbol k y).now = n.now := by simp
  unfold Timely
  rw [hli, hnow]
  exact ⟨by simpa, by simpa, by simpa, by simpa, hlane, by simpa, by simpa⟩

theorem noteSymbol_lastEnd (n : Node) (k : Lane) (y : LineSymbol) :
    ((n.noteSymbol k y).li.lane k).lastEnd = (n.noteSymbol k y).now := by
  obtain ⟨x, hx, high, hli⟩ := n.noteSymbol_li k y
  have hnow : (n.noteSymbol k y).now = n.now := by simp
  rw [hli, hnow]
  cases k <;> exact hx

theorem enqueueCommand_timely {n : Node} (h : n.Timely) (f : Frame) : (n.enqueueCommand f).Timely := by
  unfold enqueueCommand
  split
  · dsimp only
    split
    · exact h
    · exact silenceRestart_timely (n := n.withCh _) h
    · exact frameWake_timely (n := n.withCh _) h
  · have hdrop : (n.withLi { n.li with commandDrop := linkInc n.li.commandDrop }).Timely := h
    dsimp only
    split
    · exact hdrop
    · exact silenceRestart_timely hdrop
    · exact hdrop

theorem enqueueNorth_timely {n : Node} (h : n.Timely) (f : Frame) : (n.enqueueNorth f).Timely := by
  unfold enqueueNorth
  split
  · exact h
  · exact countLane_timely h _ _

theorem enqueueSouth_timely {n : Node} (h : n.Timely) (f : Frame) : (n.enqueueSouth f).Timely := by
  unfold enqueueSouth
  split
  · exact h
  · exact countLane_timely h _ _

theorem northbound_timely {n : Node} (h : n.Timely) (f : Frame) : (n.northbound f).Timely := by
  have hmis : n.countMisaddressed.Timely := h
  unfold northbound
  dsimp only
  split
  · exact enqueueNorth_timely (enqueueCommand_timely h f) f
  · split
    · split
      · split
        · exact enqueueCommand_timely h f
        · exact hmis
      · exact enqueueNorth_timely h f
    · split
      · split
        · exact enqueueCommand_timely h f
        · exact enqueueNorth_timely h f
      · exact hmis

theorem southbound_timely {n : Node} (h : n.Timely) (f : Frame) : (n.southbound f).Timely := by
  unfold southbound
  split
  · exact enqueueSouth_timely h f
  · exact h

/-! ### The events -/

theorem answer_timely {n : Node} (h : n.Timely) (f : Frame) (st : Status) (data : List Byte) :
    (n.answer f st data).Timely := by
  simpa [Timely] using h

theorem clearCounters_timely {n : Node} (h : n.Timely) : (n.withLi n.li.clearCounters).Timely := by
  obtain ⟨hsilence, htxN, htxS, hlanes⟩ := h.2.2.2.2.1
  refine withLi_timely h ⟨hsilence, htxN, htxS, fun k d hd => hlanes k d ?_⟩
  cases k <;> exact hd

theorem restoreDefaults_timely {n : Node} (h : n.Timely) : n.restoreDefaults.Timely := by
  unfold restoreDefaults
  refine silenceRestart_timely ?_
  exact h

theorem beginSave_timely {n : Node} (h : n.Timely) (f : Frame) : (n.beginSave f).Timely := by
  obtain ⟨hcu, hseq, heq, hmu, hlink, -, hpower⟩ := h
  refine ⟨hcu, hseq, heq, hmu, hlink, fun v hv => ?_, hpower⟩
  cases hv
  exact Nat.le_add_right _ _

theorem acceptOperation_timely {n : Node} (h : n.Timely) (f : Frame) (b : OpBody) : (n.acceptOperation f b).Timely := by
  obtain ⟨hcu, hseq, heq, -, hrest⟩ := h
  refine (acceptOperation_works f b n).timely ⟨hcu, hseq, heq, ?_, hrest⟩
  exact fun d hd => (by cases hd)

theorem stop_timely {n : Node} (h : n.Timely) : (n.withEq (n.eq.stop n.now)).Timely :=
  withEq_timely h rfl (.inl rfl)

theorem Taken.timely {f : Frame} {n m : Node} (hm : n.Taken f m) (h : n.Timely) : m.Timely := by
  cases hm with
  | answered st data => exact answer_timely h _ _ _
  | unanswered => exact h
  | assigned a => exact answer_timely (n := n.withLi { n.li with address := a }) h _ _ _
  | countersCleared data => exact clearCounters_timely (answer_timely h _ _ _)
  | nodeReset => exact answer_timely (softReset_timely h) _ _ _
  | populationSet v hv hallowed => exact answer_timely (n := n.changePopulation v) h _ _ _
  | settingsSet c hc => exact answer_timely (n := n.withCfg c) h _ _ _
  | silenceSet v hv =>
    refine answer_timely (silenceRestart_timely ?_) _ _ _
    exact h
  | alertsOff =>
    refine answer_timely ?_ _ _ _
    exact h
  | limitsSet srcs cfg => exact answer_timely (n := n.withLm (n.lm.write srcs cfg)) h _ _ _
  | saveBegun hss => exact beginSave_timely h f
  | defaultsRestored hd => exact answer_timely (restoreDefaults_timely h) _ _ _
  | planStaged p => exact answer_timely (n := n.withSeq { n.seq with staged := p }) h _ _ _
  | scanStarted hst hmu => exact answer_timely ((n.passStart_works true).timely h) _ _ _
  | scanStopped => exact answer_timely (n.seqStop_works.timely h) _ _ _
  | passDoneTaken data =>
    have hseq : (n.answer f .ok data).seq = n.seq := by simp
    rw [← hseq]
    exact answer_timely h f .ok data
  | extremaCleared srcs => exact answer_timely (n := n.withRt (clearExtremaOf srcs n.rt)) h _ _ _
  | acknowledged k src e he hactive => exact answer_timely (n := n.withFt (n.ft.remove k src)) h _ _ _
  | clearedDropped data => exact answer_timely (n := n.withFt n.ft.dropCleared) h _ _ _
  | eqStaged entries hentries => exact answer_timely (n := n.withEq (n.eq.stage entries)) h _ _ _
  | eqStopped => exact answer_timely (stop_timely h) _ _ _
  | eqResumed => exact answer_timely (n := n.withEq n.eq.resume) h _ _ _
  | doneEmptied data =>
    have heq : (n.answer f .ok data).eq = n.eq := by simp
    rw [← heq]
    exact answer_timely h f .ok data
  | operationAccepted b hb => exact acceptOperation_timely h f b
  | operationAborted o ho => exact (abortOperation_works o _).timely (answer_timely h _ _ _)
  | standbyEntered hmu hw => exact enterStandby_timely (answer_timely h _ _ _)

theorem Heard.timely {k : Lane} {n m : Node} (hm : n.Heard k m) (h : n.Timely) (hnow : (n.li.lane k).lastEnd = n.now) :
    m.Timely := by
  cases hm with
  | ignored => exact h
  | taken rx => exact setReceiver_timely h (.inr hnow)
  | abandoned rx count => exact abandon_timely h (.inr hnow) count
  | northbound f hk => exact northbound_timely (setReceiver_timely h (.inl rfl)) f
  | southbound f hk => exact southbound_timely (setReceiver_timely h (.inl rfl)) f

theorem quietGrant_timely {n : Node} (h : n.Timely) (who : Client) (r : QuietReq) :
    (n.withEq { n.eq with quiet := n.eq.quiet.set who (some { r with granted := true }) }).Timely := by
  obtain ⟨hcu, hseq, ⟨hreq, hslot⟩, hrest⟩ := h
  refine ⟨hcu, hseq, ⟨fun w q hq hg => ?_, hslot⟩, hrest⟩
  simp only [withEq_eq, quiet_get_set] at hq
  split at hq
  · cases hq
    cases hg
  · exact hreq w q hq hg

theorem linkSilence_timely {n : Node} (h : n.Timely) : n.linkSilence.Timely :=
  safeStop_timely (raiseFault_timely (silenceOff_timely h) _ _ _ _)

theorem saveEnd_timely {n : Node} (h : n.Timely) (v : Saving) : (n.saveEnd v).Timely := by
  have hstored : (n.withSs { image := some v.snapshot, saving := none }).Timely := by
    obtain ⟨hcu, hseq, heq, hmu, hlink, -, hpower⟩ := h
    exact ⟨hcu, hseq, heq, hmu, hlink, fun _ hx => (by cases hx), hpower⟩
  unfold saveEnd
  dsimp only
  split
  · exact hstored
  · simpa [Timely] using hstored

theorem watchPassStart_timely {n : Node} (h : n.Timely) : n.watchPassStart.Timely := by
  unfold watchPassStart
  refine (leaseRequest_works _ _).timely (powerUp_timely ?_)
  obtain ⟨hcu, hseq, heq, hmu, hlink, hstore, -, hphase⟩ := n.advancePass_works.timely h
  exact ⟨hcu, hseq, heq, hmu, hlink, hstore, fun _ hd => (by cases hd), hphase⟩

theorem northSent_timely {n : Node} (h : n.Timely) : n.northSent.Timely := by
  obtain ⟨hsilence, -, htxS, hlanes⟩ := h.2.2.2.2.1
  refine withLi_timely h ⟨hsilence, fun _ hd => (by cases hd), htxS, fun k d hd => hlanes k d ?_⟩
  cases k <;> exact hd

theorem southSent_timely {n : Node} (h : n.Timely) (who : Sender) : (n.southSent who).Timely := by
  have hfree : (n.withLi { n.li with txS := none }).Timely := by
    obtain ⟨hsilence, htxN, -, hlanes⟩ := h.2.2.2.2.1
    refine withLi_timely h ⟨hsilence, htxN, fun _ hd => (by cases hd), fun k d hd => hlanes k d ?_⟩
    cases k <;> exact hd
  cases who <;> exact hfree

theorem breakWait_timely {n : Node} (h : n.Timely) : (n.withPc { n.pc with phase := .breakWait }).Timely := by
  obtain ⟨hcu, hseq, heq, hmu, hlink, hstore, hwatch, -⟩ := h
  exact ⟨hcu, hseq, heq, hmu, hlink, hstore, hwatch, fun _ hd => (by cases hd)⟩

theorem Expired.timely {n m e : Node} {t : Nat} (he : n.Expired t m e) (h : m.Timely) (ht : m.now ≤ t) : e.Timely := by
  cases he with
  | driveReleased hphase => exact beginStartUp_timely h
  | driveEnded hphase => exact breakWait_timely h
  | loaded hphase => exact (autostart_works _).timely (started_timely h)
  | settled hst => exact m.enterIdle_works.timely h
  | recovered hst => exact m.enterIdle_works.timely h
  | converted c reading hst hc => exact deliver_timely (m.conversionEnds_works.timely h) _
  | passDue hst hmu => exact (m.passStart_works false).timely h
  | passDeferred hst hmu => exact (works_withSeq m (.inl (by simp))).timely h
  | quietGranted who r hr hgrant => exact (actOnGrant_works _ who).timely (quietGrant_timely h who r)
  | slotEnded hslot => exact slotBoundary_timely h ht
  | injected hst => exact m.injectSettled_works.timely h
  | silent hli => exact linkSilence_timely h
  | saved v hv => exact saveEnd_timely h v
  | watchBegun htimer => exact watchPassStart_timely h
  | alertHeld => exact h
  | northSent => exact northSent_timely h
  | southSent who => exact southSent_timely h who
  | gap k count => exact abandon_timely h (.inl rfl) count

theorem elapse_timely {n : Node} (h : n.TimeLaw) (dt : Nat) : (n.elapse dt).Timely :=
  timely_withNow (elapse_now_le h dt)

/-- After an event, up to its end, no timer is over. -/
theorem Event.timely {n m : Node} (hm : n.Event m) (h : n.TimeLaw) : m.Timely := by
  cases hm with
  | supplied dt => exact powerUp_timely (cold_timely (fun d hd => by cases hd; exact Nat.le_add_right _ _) _ _ _)
  | broken dt => exact cold_timely (fun d hd => by cases hd; exact Nat.le_add_right _ _) _ _ _
  | unsupplied dt => exact cold_timely (fun d hd => by cases hd) _ _ _
  | released dt hphase => exact beginStartUp_timely (elapse_timely h dt)
  | expiry t hdue he => exact he.timely (timely_withNow hdue.2) le_rfl
  | symbol dt k y he => exact he.timely (noteSymbol_timely (elapse_timely h dt) k y) (noteSymbol_lastEnd _ k y)
  | command f rest ht he => exact he.timely (timely_withNow (t := n.now) h)

/-! ### The end of an event and the moment -/

theorem startTxS_timely {n : Node} (h : n.Timely) : n.startTxS.Timely := by
  obtain ⟨hsilence, htxN, htxS, hlanes⟩ := h.2.2.2.2.1
  unfold startTxS
  split
  · split
    · exact h
    · rename_i f _
      refine withLi_timely h ⟨hsilence, htxN, fun x hx => ?_, fun k d hd => hlanes k d ?_⟩
      · cases hx
        exact Nat.le_add_right _ _
      · cases k <;> exact hd
  · exact h

theorem startTxN_timely {n : Node} (h : n.Timely) : n.startTxN.Timely := by
  obtain ⟨hsilence, htxN, htxS, hlanes⟩ := h.2.2.2.2.1
  unfold startTxN
  split
  · refine withLi_timely h ⟨hsilence, fun d hd => ?_, htxS, fun k d hd => hlanes k d ?_⟩
    · cases hd
      exact Nat.le_add_right _ _
    · cases k <;> exact hd
  · exact h

theorem finish_timely {n : Node} (h : n.Timely) : n.finish.Timely := by
  have hopen : n.enforceOpen.Timely := withEq_timely h rfl (.inl rfl)
  have hqueued : n.enforceOpen.fillReplies.queueAlert.Timely := by
    simpa [Timely] using hopen
  exact startTxN_timely (startTxS_timely hqueued)

theorem softReset_now (n : Node) : n.softReset.now = n.now := by
  simp [softReset_def, chSoftReset, eqSoftReset, softCleared, lmSoftReset, cuSoftReset]

theorem Taken.now_eq {f : Frame} {n m : Node} (hm : n.Taken f m) : m.now = n.now := by
  cases hm with
  | nodeReset => simp [softReset_now]
  | operationAccepted b hb => exact (acceptOperation_works f b n).now_eq
  | operationAborted o ho => simpa using (abortOperation_works o (n.answer f .ok [])).now_eq
  | _ => simp [changePopulation, beginSave, restoreDefaults]

theorem started_now (n : Node) : n.started.now = n.now := by
  have hload : n.applyLoad.now = n.now := by
    unfold applyLoad
    split <;> simp [loadLimits]
  simpa [started] using hload

theorem Expired.now_eq {n m e : Node} {t : Nat} (he : n.Expired t m e) : e.now = m.now := by
  cases he with
  | loaded hphase => exact (autostart_works m.started).now_eq.trans m.started_now
  | quietGranted who r hr hgrant => exact (actOnGrant_works _ who).now_eq
  | injected hst => exact m.injectSettled_works.now_eq
  | saved v hv =>
    unfold saveEnd
    dsimp only
    split <;> simp
  | _ => simp [linkSilence, abandon]

theorem now_le_elapse (n : Node) (dt : Nat) : n.now ≤ (n.elapse dt).now := le_max_left _ _

/-- The moment of an event is not before the node's. -/
theorem Event.now_le {n m : Node} (hm : n.Event m) : n.now ≤ m.now := by
  cases hm with
  | supplied dt => simpa [powerOnReset, coldReset, cold] using n.now_le_elapse dt
  | broken dt => exact n.now_le_elapse dt
  | unsupplied dt => exact n.now_le_elapse dt
  | released dt hphase => simpa using n.now_le_elapse dt
  | expiry t hdue he => rw [he.now_eq]; exact hdue.1
  | symbol dt k y he =>
    have hy : n.now ≤ ((n.elapse dt).noteSymbol k y).now := by simpa using n.now_le_elapse dt
    cases he <;> simpa [abandon] using hy
  | command f rest ht he => rw [he.now_eq]; exact le_rfl

end Node

/-- Settles O58: an event reaches the moment of the nearest expiry at most, and arms its timers for later. -/
theorem theClockNeverPassesAnExpiry : Obligations.TheClockNeverPassesAnExpiry := by
  intro s t hs h
  rcases step_cases h with heq | ⟨m, hm, heq⟩
  · rw [heq]
    exact ⟨hs, le_rfl⟩
  · rw [heq]
    refine ⟨Node.timeLaw_of_timely (Node.finish_timely (hm.timely hs)), ?_⟩
    simpa using hm.now_le

end Sys2Proof.Machine
end

section
/-! SUPPORT. The step and the rows of the Command Handler (R175, R176): each row of `commandRows` is a command row, and
the tables of Obligations.lean name its KIND and its lengths. -/

namespace Sys2Proof.Machine

/-- Settles O1: `step` is the match on the waiting commands. -/
theorem stepTakesTheFrontCommand : Obligations.StepTakesTheFrontCommand :=
  ⟨fun c rest s h => by simp only [step, h], fun s h => by simp only [step, h]⟩

/-- Settles O2: every row changes the node only. -/
theorem everyCommandCompletes : Obligations.EveryCommandCompletes := fun c s => by
  obtain ⟨row, -, hexec⟩ := Node.exec_eventful c
  exact ⟨{ s with toNode := row s.toNode }, hexec s, rfl⟩

theorem reset_quietLaw : State.reset.QuietLaw := by
  intro who r hr
  cases who <;> cases hr

/-- Settles O60: each law is decided in the one state. -/
theorem resetSatisfiesEveryLaw : Obligations.ResetSatisfiesEveryLaw :=
  ⟨by decide, by decide, by decide, by decide, by decide, by decide, by decide,
    reset_quietLaw, by decide,
    ⟨Node.legal_factory, fun _ h => (by cases h), fun _ h => (by cases h)⟩, by decide, by decide, by decide, by decide⟩

/-- A row that leaves the node leaves the state (log entry 2). -/
theorem State.onNode_of_same {s : State} {row : Node → Node} (h : row s.toNode = s.toNode) : s.onNode row = .next s := by
  rw [State.onNode_eq, h]

/-- R176: the rows of the Command Handler take frames. -/
theorem commandRows_command : ∀ c ∈ commandRows, ∃ isRow fits judge, ∀ s : State,
    exec c s = s.onNode (Node.command isRow fits judge) := by
  simp only [commandRows, fixedRows, writeRows, List.map_cons, List.map_nil, List.cons_append, List.nil_append,
    List.forall_mem_cons, List.not_mem_nil, false_implies, implies_true, and_true]
  repeat' apply And.intro
  all_goals exact ⟨_, _, _, fun _ => rfl⟩

/-- R184: a row of one payload layout takes the frames of its KIND and looks at their length. -/
theorem fixedRows_command : ∀ r ∈ fixedRows, ∃ fits judge, (∀ p, fits p = r.2.2 p.length) ∧ ∀ s : State,
    exec r.1 s = s.onNode (Node.command (isKind r.2.1) fits judge) := by
  simp only [fixedRows, List.forall_mem_cons, List.not_mem_nil, false_implies, implies_true, and_true]
  repeat' apply And.intro
  all_goals exact ⟨_, _, fun _ => rfl, fun _ => rfl⟩

/-- R187: a CONFIG_WRITE row takes the frames about its items. -/
theorem writeRows_command : ∀ r ∈ writeRows, ∃ judge, ∀ s : State,
    exec r.1 s = s.onNode (Node.command (writesItem r.2.1 r.2.2.1) (fun _ => true) judge) := by
  simp only [writeRows, List.forall_mem_cons, List.not_mem_nil, false_implies, implies_true, and_true]
  repeat' apply And.intro
  all_goals exact ⟨_, fun _ => rfl⟩

theorem isKind_eq_false {f : Frame} {k : Byte} (h : f.kind ≠ k) : isKind k f = false := by
  simp [isKind, h]

theorem writesItem_eq_false {f : Frame} (h : f.kind ≠ 0x10) (lo hi : Nat) : writesItem lo hi f = false := by
  have hkind : (f.kind == 0x10) = false := by simpa using h
  rw [writesItem, hkind, Bool.false_and]

/-- A command row leaves the state while the frame at the front is another row's (log entry 2). -/
theorem onNode_command_of_other {s : State} {f : Frame} {rest : List Frame} (hq : s.ch.cmdQueue = f :: rest)
    {isRow : Frame → Bool} (hr : isRow f = false) (fits : List Byte → Bool) (judge : Frame → Node → Node) :
    s.onNode (Node.command isRow fits judge) = .next s :=
  State.onNode_of_same (Node.command_of_other (by simpa [hq] using hr) _ _)

/-- R176: a command row leaves the state while nothing can be taken. -/
theorem onNode_command_of_blocked {s : State}
    (h : s.pc.power ≠ .active ∨ 4 ≤ s.ch.replyQueue.length ∨ s.ch.pendingReplies ≠ [] ∨ s.ch.cmdQueue = [])
    (isRow : Frame → Bool) (fits : List Byte → Bool) (judge : Frame → Node → Node) :
    s.onNode (Node.command isRow fits judge) = .next s := by
  refine State.onNode_of_same (Node.command_of_blocked ?_ _ _ _)
  by_cases hq : s.ch.cmdQueue = []
  · exact .inr hq
  · refine .inl (Bool.eq_false_iff.mpr fun hc => ?_)
    obtain ⟨hpower, hfree, hpending⟩ := (Node.canTake_iff _).mp hc
    obtain h | h | h | h := h
    · exact h hpower
    · omega
    · exact h hpending
    · exact hq h

/-- Settles O3: each of the four families of rows is a command row about its own kind. -/
theorem commandsWaitForTheirConditions : Obligations.CommandsWaitForTheirConditions := by
  refine ⟨fun c hc s h => ?blocked, fun r hr s f rest hq hk => ?fixed, fun r hr s f rest hq hk => ?written,
    fun s f rest hq => ⟨fun hk => ?reportList, fun hk => ?plan⟩⟩
  case blocked =>
    obtain ⟨isRow, fits, judge, hexec⟩ := commandRows_command c hc
    rw [hexec, onNode_command_of_blocked h]
  case fixed =>
    obtain ⟨fits, judge, -, hexec⟩ := fixedRows_command r hr
    rw [hexec, onNode_command_of_other hq (isKind_eq_false hk)]
  case written =>
    obtain ⟨judge, hexec⟩ := writeRows_command r hr
    rw [hexec, onNode_command_of_other hq (writesItem_eq_false hk _ _)]
  case reportList => exact onNode_command_of_other hq (writesItem_eq_false hk 15 15) _ _
  case plan => exact onNode_command_of_other hq (isKind_eq_false hk) _ _

/-- R175: a command row with a frame of its own at the front, of a length the command has not. -/
theorem State.onNode_command_of_badLength {s : State} {f : Frame} {rest : List Frame} (ht : s.Takes f rest)
    {isRow : Frame → Bool} (hr : isRow f = true) {fits : List Byte → Bool} (hf : fits f.payload = false)
    (judge : Frame → Node → Node) :
    s.onNode (Node.command isRow fits judge) = s.ends ((s.left rest).answer f .badLength []) := by
  rw [State.onNode_eq, Node.command_of_takes ht hr, if_neg (by simp [hf]), State.ends]

theorem isUnknownKind_iff (f : Frame) : isUnknownKind f = true ↔ f.kind ∉ commandKinds := by
  simp [isUnknownKind]

theorem answer_of_broadcast {f : Frame} (h : f.address = 63) (n : Node) (st : Status) (data : List Byte) :
    n.answer f st data = n := by
  simp [Node.answer, Frame.isBroadcast, h]

theorem answer_of_not_broadcast {f : Frame} (h : f.address ≠ 63) (n : Node) (st : Status) (data : List Byte) :
    n.answer f st data
      = n.withCh { n.ch with replyQueue := n.ch.replyQueue ++ [n.replyFrame f.kind f.tag st data] } := by
  have hbroadcast : ¬f.isBroadcast = true := by simpa [Frame.isBroadcast] using h
  rw [Node.answer, if_neg hbroadcast]

/-- R175: the tag of a command frame. -/
theorem Frame.tag_eq (f : Frame) : f.tag = match f.payload with
    | [] => 0
    | tag :: _ => tag := by
  unfold Frame.tag
  cases f.payload <;> rfl

/-- Settles O4: the kinds outside the table have their row, a known kind's row refuses a length that does not fit, and
`answer` forms the reply. -/
theorem repliesAndTheFirstRefusals : Obligations.RepliesAndTheFirstRefusals := by
  refine ⟨fun s f rest ht => ⟨fun hk => ?unknown, fun hk => ?known, fun r hr hk hlen => ?badLength⟩,
    fun n f st data => ⟨fun ha => answer_of_broadcast ha n st data, fun ha => ?formed⟩⟩
  case unknown => exact State.onNode_command_of_takes ht ((isUnknownKind_iff f).mpr hk) rfl _
  case known =>
    obtain ⟨hq, -⟩ := ht
    exact onNode_command_of_other hq (Bool.eq_false_iff.mpr fun h => (isUnknownKind_iff f).mp h hk) _ _
  case badLength =>
    obtain ⟨fits, judge, hfits, hexec⟩ := fixedRows_command r hr
    rw [hexec, State.onNode_command_of_badLength ht (isKind_of_kind hk) (by rw [hfits, hlen])]
  case formed =>
    rw [answer_of_not_broadcast ha, Node.replyFrame, Frame.tag_eq]
    rfl

end Sys2Proof.Machine
end

section
/-! SUPPORT. The end of an event (log entry 9): the switches that open, the conditions of R73, the places of the reply
queue, the two transmitters. -/

namespace Sys2Proof.Machine

namespace Node

/-! ### Switches and inhibits (R73, R102, R104) -/

/-- R102: the five conditions of a closed switch. -/
theorem mayClose_iff (n : Node) (slot : Nat) (c : Channel) : n.mayClose slot c = true ↔ n.eq.st = .running
    ∧ inWindow c.num c.duty slot = true ∧ 0 < c.budget ∧ n.eq.quiet.holds c.num = false ∧ n.inhibited c.num = false := by
  simp [mayClose, and_assoc]

/-- R104: the Equalizer at the end of an event. -/
theorem enforceOpen_channels (n : Node) : n.enforceOpen.eq = { n.eq with channels := n.eq.channels.map fun c =>
    if c.closed = true ∧ ¬(n.mayClose n.eq.slot c = true)
    then { c with closed := false, openSince := n.now, kept := decide (n.eq.slotEnd = some n.now) } else c } := by
  have hchannel : ∀ c : Channel, (if n.mayClose n.eq.slot c then c else c.openAt n.now (n.eq.atSlotEnd n.now))
      = if c.closed = true ∧ ¬(n.mayClose n.eq.slot c = true)
        then { c with closed := false, openSince := n.now, kept := decide (n.eq.slotEnd = some n.now) } else c := fun c => by
    by_cases hmay : n.mayClose n.eq.slot c = true
    · simp [hmay]
    · cases hclosed : c.closed <;> simp [hmay, hclosed, Channel.openAt, Equalizer.atSlotEnd, beq_eq_decide]
  simp only [enforceOpen, Equalizer.mapChannels, withEq_eq, hchannel]

/-- R64: the limit state of a source, read from its record. -/
theorem state_eq_iff {n : Node} (hlaw : n.LimitTableLaw) {st : LimitState} (hst : st ≠ .normal) (src : Nat) :
    n.lm.state src = st ↔ ∃ r ∈ n.lm.recs, r.source = src ∧ r.st = st := by
  have hnodup : (n.lm.recs.map LimitRec.source).Nodup := by
    rw [hlaw]
    decide
  unfold LimitMonitor.state
  cases hfind : n.lm.find src with
  | none =>
    have hnone : ∀ r ∈ n.lm.recs, r.source ≠ src := by simpa [LimitMonitor.find] using hfind
    refine ⟨fun h => absurd h.symm hst, fun ⟨r, hr, hsrc, _⟩ => absurd hsrc (hnone r hr)⟩
  | some x =>
    have hx : x ∈ n.lm.recs := List.mem_of_find?_eq_some hfind
    have hxsrc : x.source = src := by simpa using List.find?_some hfind
    refine ⟨fun h => ⟨x, hx, hxsrc, h⟩, fun ⟨r, hr, hsrc, hrst⟩ => ?_⟩
    have hrx : r = x := List.inj_on_of_nodup_map hnodup hr hx (hsrc.trans hxsrc.symm)
    exact hrx ▸ hrst

/-- R72, R73: an auxiliary input of a heat role in the state of its role. -/
theorem auxHeat_iff {n : Node} (hlaw : n.LimitTableLaw) (j : Nat) : n.auxHeat j = true ↔
    ∃ r ∈ n.lm.recs, r.source = 14 + j
      ∧ ((n.cfg.role j = .heatIfHigh ∧ r.st = .high) ∨ (n.cfg.role j = .heatIfLow ∧ r.st = .low)) := by
  unfold auxHeat
  cases n.cfg.role j with
  | general => simp
  | heatIfLow => simpa using state_eq_iff hlaw (st := .low) (by decide) (14 + j)
  | heatIfHigh => simpa using state_eq_iff hlaw (st := .high) (by decide) (14 + j)

theorem isActive_iff (t : FaultTable) (k : FaultKind) (src : Nat) :
    t.isActive k src = true ↔ ∃ e ∈ t.entries, e.active = true ∧ e.kind = k ∧ e.source = src := by
  simp only [FaultTable.isActive, List.any_eq_true, Bool.and_eq_true, beq_iff_eq]
  exact exists_congr fun e => and_congr_right fun _ => and_comm

/-- R73: the conditions that inhibit every channel. -/
theorem inhibitsAll_iff {n : Node} (hlaw : n.LimitTableLaw) : n.inhibitsAll = true ↔ n.InhibitsEvery := by
  have hdie : (n.lm.state srcDie == .high) = true ↔ ∃ r ∈ n.lm.recs, r.source = 20 ∧ r.st = .high := by
    rw [beq_iff_eq]
    exact state_eq_iff hlaw (by decide) 20
  have haux : (n.auxHeat 1 = true ∨ n.auxHeat 2 = true ∨ n.auxHeat 3 = true ∨ n.auxHeat 4 = true) ↔
      ∃ a ∈ [(15, n.cfg.role1), (16, n.cfg.role2), (17, n.cfg.role3), (18, n.cfg.role4)], ∃ r ∈ n.lm.recs,
        r.source = a.1 ∧ ((a.2 = .heatIfHigh ∧ r.st = .high) ∨ (a.2 = .heatIfLow ∧ r.st = .low)) := by
    simp only [auxHeat_iff hlaw, List.exists_mem_cons_iff, List.not_mem_nil, false_and, exists_false, or_false,
      Settings.role, Nat.reduceAdd]
  have hfault : (n.ft.isActive .sumMismatch 0 = true ∨ n.ft.isActive .refFault 21 = true) ↔
      ∃ e ∈ n.ft.entries, e.active = true
        ∧ ((e.kind = .sumMismatch ∧ e.source = 0) ∨ (e.kind = .refFault ∧ e.source = 21)) := by
    simp only [isActive_iff, ← exists_or, ← and_or_left]
  unfold InhibitsEvery
  rw [← hdie, ← haux, ← hfault]
  simp only [inhibitsAll, Bool.or_eq_true, or_assoc]

/-- R73: the conditions that inhibit one channel. -/
theorem inhibitsOne_iff {n : Node} (hlaw : n.LimitTableLaw) (k : Nat) :
    (n.lm.state k == .low || n.lineInhibits k) = true ↔ n.InhibitsOne k := by
  have hline : n.lineInhibits k = true ↔ ∃ e ∈ n.ft.entries, e.active = true ∧ e.kind = .lineOpen
      ∧ (e.source = k ∨ e.source + 1 = k) := by
    simp only [lineInhibits, List.any_eq_true, Bool.and_eq_true, Bool.or_eq_true, beq_iff_eq]
    exact exists_congr fun e => and_congr_right fun _ => by tauto
  rw [Bool.or_eq_true, hline, beq_iff_eq, state_eq_iff hlaw (by decide) k]

end Node

/-- Settles O5: `enforceOpen` opens the switches, and R73's conditions are those `inhibited` asks for. -/
theorem switchesOpenAtTheEndOfAnEvent : Obligations.SwitchesOpenAtTheEndOfAnEvent := by
  refine ⟨fun n => ⟨by simp, by simp, by simp, by simp, by simp, by simp, by simp, by simp, by simp, by simp, by simp, ?_⟩,
    fun n k hlaw => ?_⟩
  · rw [Node.finish_eq, Node.enforceOpen_channels]
    simp only [Node.mayClose_iff]
  · rw [← Node.inhibitsAll_iff hlaw, ← Node.inhibitsOne_iff hlaw, ← Bool.or_eq_true, ← Bool.or_assoc]
    simp only [Node.inhibited, Bool.and_eq_true, decide_eq_true_eq, and_assoc]

/-! ### The places of the reply queue (R177, R181) -/

namespace Node

/-- R181: when an ALERT is due. -/
theorem alertDue_iff (n : Node) : n.alertDue = true ↔ n.AlertIsDue := by
  unfold alertDue holdoffEnd
  cases hlast : n.ch.lastAlert <;>
    simp [alertWanted, AlertReasons.any, AlertIsDue, hlast, Config.holdoffUnit, and_assoc, or_assoc]

theorem byte_eq (r : AlertReasons) : r.byte
    = BitVec.ofNat 8 (r.faultNew.toNat + 2 * r.eqFinished.toNat + 4 * r.watchWake.toNat) := by
  obtain ⟨f, e, w⟩ := r
  revert f e w
  decide

/-- R181: the ALERT in bytes. -/
theorem alertFrame_eq (n : Node) : n.alertFrame = {
    address := BitVec.ofNat 8 n.li.address
    kind := 0xF0
    payload := [BitVec.ofNat 8 (n.ch.reasons.faultNew.toNat + 2 * n.ch.reasons.eqFinished.toNat
          + 4 * n.ch.reasons.watchWake.toNat),
        BitVec.ofNat 8 n.ft.activeCount, BitVec.ofNat 8 n.eq.st.code, BitVec.ofNat 8 n.seq.st.code] } := by
  simp only [alertFrame, put1_natCast, byte_eq, origin, List.cons_append, List.nil_append]

/-- The node of an event's end before a due ALERT claims a place. -/
theorem filled_ch (n : Node) : n.enforceOpen.fillReplies.ch = { n.ch with
    replyQueue := n.ch.replyQueue ++ (n.ch.pendingReplies.take (4 - n.ch.replyQueue.length)).map PendingReply.frame
    pendingReplies := n.ch.pendingReplies.drop (4 - n.ch.replyQueue.length) } := rfl

/-- R177: a place is left once every pending reply has one. -/
theorem filled_free_iff (n : Node) :
    (n.enforceOpen.fillReplies.replyFree && n.enforceOpen.fillReplies.ch.pendingReplies.isEmpty) = true
      ↔ n.ch.replyQueue.length + n.ch.pendingReplies.length < 4 := by
  rw [replyFree, filled_ch]
  simp only [Bool.and_eq_true, decide_eq_true_eq, List.isEmpty_iff, List.drop_eq_nil_iff, List.length_append,
    List.length_map, List.length_take, Config.replyQueueCap]
  omega

theorem filled_alertIsDue (n : Node) : n.enforceOpen.fillReplies.AlertIsDue ↔ n.AlertIsDue := Iff.rfl

theorem filled_queueAlert_iff (n : Node) :
    (n.enforceOpen.fillReplies.alertDue && n.enforceOpen.fillReplies.replyFree
        && n.enforceOpen.fillReplies.ch.pendingReplies.isEmpty) = true
      ↔ n.AlertIsDue ∧ n.ch.replyQueue.length + n.ch.pendingReplies.length < 4 := by
  rw [Bool.and_assoc, Bool.and_eq_true, filled_free_iff, alertDue_iff, filled_alertIsDue]

/-- R177, R181: the Command Handler after an event, with a due ALERT that finds a place. -/
theorem finish_ch_of_alert {n : Node} (h : n.AlertIsDue ∧ n.ch.replyQueue.length + n.ch.pendingReplies.length < 4) :
    n.finish.ch = { n.enforceOpen.fillReplies.ch with
      replyQueue := n.enforceOpen.fillReplies.ch.replyQueue ++ [n.enforceOpen.fillReplies.alertFrame]
      reasons := AlertReasons.none
      lastAlert := some n.now } := by
  rw [finish_ch, queueAlert, if_pos ((filled_queueAlert_iff n).mpr h)]
  simp

/-- R177, R181: the Command Handler after any other event. -/
theorem finish_ch_of_no_alert {n : Node}
    (h : ¬(n.AlertIsDue ∧ n.ch.replyQueue.length + n.ch.pendingReplies.length < 4)) :
    n.finish.ch = n.enforceOpen.fillReplies.ch := by
  rw [finish_ch, queueAlert, if_neg (fun hc => h ((filled_queueAlert_iff n).mp hc))]

end Node

/-- Settles O6: a due ALERT finds a place or it does not. -/
theorem replyPlacesAreClaimedInOrder : Obligations.ReplyPlacesAreClaimedInOrder := by
  intro n
  by_cases h : n.AlertIsDue ∧ n.ch.replyQueue.length + n.ch.pendingReplies.length < 4
  · have hall : n.ch.pendingReplies.take (4 - n.ch.replyQueue.length) = n.ch.pendingReplies :=
      List.take_of_length_le (by omega)
    rw [Node.finish_ch_of_alert h, Node.filled_ch, hall, Node.alertFrame_eq]
    exact ⟨rfl, rfl, fun _ => ⟨rfl, rfl, rfl⟩, fun hno => absurd h hno⟩
  · rw [Node.finish_ch_of_no_alert h, Node.filled_ch]
    exact ⟨rfl, rfl, fun hyes => absurd hyes h, fun _ => ⟨rfl, rfl, rfl⟩⟩

/-! ### The transmitters (R166, R167) -/

namespace Node

/-- The node of an event's end before the free transmitters begin. -/
def claimed (n : Node) : Node := n.enforceOpen.fillReplies.queueAlert

theorem finish_claimed (n : Node) : n.finish = n.claimed.startTxS.startTxN := rfl

theorem claimed_li (n : Node) : n.claimed.li = n.li := by simp [claimed]
theorem claimed_now (n : Node) : n.claimed.now = n.now := by simp [claimed]
theorem claimed_ch (n : Node) : n.claimed.ch = n.finish.ch := by simp [claimed]

theorem duration_eq (f : Frame) : f.duration = lineTime f := rfl

/-- R166: TX_N at the end of an event. -/
theorem startTxN_txN (n : Node) : n.startTxN.li.txN
    = if n.li.txN.isSome then n.li.txN else n.li.north.head?.map fun f => n.now + lineTime f := by
  unfold startTxN
  cases htx : n.li.txN with
  | some e => simpa using htx
  | none => cases hq : n.li.north <;> simp [htx, duration_eq]

theorem startTxN_txS (n : Node) : n.startTxN.li.txS = n.li.txS ∧ n.startTxN.li.lastSender = n.li.lastSender := by
  unfold startTxN
  split <;> exact ⟨rfl, rfl⟩

theorem startTxS_north (n : Node) : n.startTxS.li.txN = n.li.txN ∧ n.startTxS.li.north = n.li.north := by
  unfold startTxS
  (repeat' split) <;> exact ⟨rfl, rfl⟩

theorem finish_txN (n : Node) : n.finish.li.txN
    = if n.li.txN.isSome then n.li.txN else n.li.north.head?.map fun f => n.now + lineTime f := by
  obtain ⟨htx, hnorth⟩ := n.claimed.startTxS_north
  rw [finish_claimed, startTxN_txN, htx, hnorth, startTxS_now, claimed_li, claimed_now]

theorem finish_txS (n : Node) :
    n.finish.li.txS = n.claimed.startTxS.li.txS ∧ n.finish.li.lastSender = n.claimed.startTxS.li.lastSender := by
  rw [finish_claimed]
  exact startTxN_txS _

/-- R167: a busy TX_S goes on. -/
theorem startTxS_of_busy {n : Node} {e : SouthTx} (h : n.li.txS = some e) : n.startTxS = n := by
  simp [startTxS, h]

/-- R167: with nothing to send TX_S stays free. -/
theorem startTxS_of_empty {n : Node} (hreply : n.ch.replyQueue = []) (hsouth : n.li.south = []) : n.startTxS = n := by
  unfold startTxS
  simp only [chooseSender, hreply, hsouth]
  split <;> simp_all

/-- R167: a free TX_S begins with the frame at the front of the source chosen. -/
theorem startTxS_of_free {n : Node} (h : n.li.txS = none) {who : Sender} {f : Frame} (hwho : n.chooseSender = some who)
    (hf : n.senderFront who = some f) :
    n.startTxS.li.txS = some { sender := who, endsAt := n.now + lineTime f } ∧ n.startTxS.li.lastSender = who := by
  simp [startTxS, h, hwho, hf, duration_eq]

/-- R167: the reply queue is chosen when it alone holds a frame or was not the last sender. -/
theorem chooseSender_reply {n : Node} {r : Frame} (hr : n.ch.replyQueue.head? = some r)
    (h : n.li.south = [] ∨ n.li.lastSender = .forward) : n.chooseSender = some .reply := by
  obtain ⟨rest, hq⟩ := List.head?_eq_some_iff.mp hr
  rcases h with hsouth | hlast
  · simp [chooseSender, hq, hsouth]
  · cases hsouth : n.li.south <;> simp [chooseSender, hq, hsouth, hlast]

/-- R167: the south forward buffer likewise. -/
theorem chooseSender_forward {n : Node} {f : Frame} (hf : n.li.south.head? = some f)
    (h : n.ch.replyQueue = [] ∨ n.li.lastSender = .reply) : n.chooseSender = some .forward := by
  obtain ⟨rest, hs⟩ := List.head?_eq_some_iff.mp hf
  rcases h with hreply | hlast
  · simp [chooseSender, hs, hreply]
  · cases hreply : n.ch.replyQueue <;> simp [chooseSender, hs, hreply, hlast]

end Node

/-- Settles O7: TX_N looks at its buffer, TX_S at what the arbiter of R167 chooses. -/
theorem freeTransmittersStart : Obligations.FreeTransmittersStart := by
  intro n
  obtain ⟨htxS, hlast⟩ := n.finish_txS
  refine ⟨fun e he => ?_, fun hfree => ?_, fun e he => ?_, fun hfree hreply hsouth => ?_, fun r hr hfree h => ?_,
    fun f hf hfree h => ?_, n.finish_li⟩
  · rw [Node.finish_txN, Option.mem_def.mp he]
    rfl
  · rw [Node.finish_txN, hfree]
    rfl
  · have hbusy : n.claimed.li.txS = some e := by rwa [Node.claimed_li]
    rw [htxS, hlast, Node.startTxS_of_busy hbusy, Node.claimed_li]
    exact ⟨he, rfl⟩
  · rw [← Node.claimed_ch] at hreply
    rw [← Node.claimed_li] at hsouth
    rw [htxS, hlast, Node.startTxS_of_empty hreply hsouth, Node.claimed_li]
    exact ⟨hfree, rfl⟩
  · rw [← Node.claimed_ch] at hr
    rw [← Node.claimed_li] at hfree h
    rw [htxS, hlast, ← Node.claimed_now]
    exact Node.startTxS_of_free hfree (Node.chooseSender_reply hr h) hr
  · rw [← Node.claimed_ch] at h
    rw [← Node.claimed_li] at hfree h hf
    rw [htxS, hlast, ← Node.claimed_now]
    exact Node.startTxS_of_free hfree (Node.chooseSender_forward hf h) hf

end Sys2Proof.Machine
end

section
/-! SUPPORT. ASSIGN, PING, READ_IDENTITY and READ_LINK_COUNTERS (R168, R173, R178): what each judges and reports. -/

namespace Sys2Proof.Machine

/-- R168, R169: ASSIGN judged, by its address byte. -/
theorem judgeAssign_eq {n : Node} {f : Frame} {tag a : Byte} (hp : f.payload = [tag, a]) :
    n.judgeAssign f = if n.li.address ≠ 0 then n.answer f .alreadyAssigned []
      else if a.toNat = 0 ∨ 60 < a.toNat then n.answer f .invalid []
      else if f.isBroadcast then n
      else (n.withLi { n.li with address := a.toNat }).answer f .ok [] := by
  simp only [Node.judgeAssign, Frame.body, hp, List.tail_cons, List.headD_cons]

theorem isBroadcast_iff (f : Frame) : f.isBroadcast = true ↔ f.address = 63 := by
  simp [Frame.isBroadcast]

/-- Settles O8: the address is taken, out of range, already there, or came by broadcast. -/
theorem assignGivesAnUnassignedNodeItsAddress : Obligations.AssignGivesAnUnassignedNodeItsAddress := by
  intro s f rest tag a ht hk hp
  have hexec : exec .assign s = s.ends ((s.left rest).judgeAssign f) :=
    State.onNode_command_of_takes ht (isKind_of_kind hk) (by simp [lengthIs, hp]) _
  rw [hexec, judgeAssign_eq hp, Node.left_li]
  refine ⟨fun hfree hlow hhigh ha => ?_, fun hfree hout => ?_, fun hset => ?_, fun ha => ?_⟩
  · rw [if_neg (not_not.mpr hfree), if_neg (by omega), if_neg (by simpa [isBroadcast_iff] using ha)]
  · rw [if_neg (not_not.mpr hfree), if_pos hout]
  · rw [if_pos hset]
  · simp only [answer_of_broadcast ha, (isBroadcast_iff f).mpr ha, if_true, ite_self]

/-- R178: the data of PING on an ACTIVE node. -/
theorem pingData_of_active {n : Node} (h : n.pc.power = .active) : n.pingData
    = put1 n.li.address ++ put1 1 ++ put1 n.pc.cause.code ++ put2 n.seq.passCounter ++ put1 n.seq.st.code
        ++ put1 n.eq.st.code ++ put1 n.ft.activeCount
        ++ [(if n.mu.st ≠ .idle then 1 else 0) ||| (if n.ss.saving.isSome = true then 2 else 0)]
        ++ put1 (n.ch.reasons.faultNew.toNat + n.ch.reasons.eqFinished.toNat + n.ch.reasons.watchWake.toNat) := by
  have hflags : flagBit 0 n.mu.inFlight ||| flagBit 1 n.ss.saving.isSome
      = (if n.mu.st ≠ .idle then 1 else 0) ||| (if n.ss.saving.isSome = true then 2 else 0) := by
    simp [flagBit, MaintenanceUnit.inFlight]
  simp only [Node.pingData, h, hflags, AlertReasons.size, PowerState.code]
  push_cast
  rfl

/-- R183: a trim code as a signed byte. -/
theorem codeByte_some (c : TrimCode) : [codeByte (some c)] = put1 c.toInt := rfl

/-- R173: a lane's counters are its report. -/
theorem LaneCounters.bytes_eq (l : LaneState) : l.counters.bytes = laneReport l := by
  simp [LaneCounters.bytes, laneReport]

/-- R173: READ_LINK_COUNTERS judged, by its options byte. -/
theorem judgeReadLinkCounters_eq {n : Node} {f : Frame} {tag o : Byte} (hp : f.payload = [tag, o]) :
    n.judgeReadLinkCounters f = if o.toNat < 2 then
        (if o.getLsbD 0 then (n.answer f .ok n.li.counterBytes).withLi n.li.clearCounters
          else n.answer f .ok n.li.counterBytes)
      else n.answer f .invalid [] := by
  have hli : (n.answer f .ok n.li.counterBytes).li = n.li := by simp
  simp only [Node.judgeReadLinkCounters, Frame.body, hp, List.tail_cons, List.headD_cons, onlyBitsBelow, hli,
    decide_eq_true_eq, Nat.pow_one]

/-- Settles O9: each report is the data its row forms. -/
theorem nodeAndLinkReport : Obligations.NodeAndLinkReport := by
  refine ⟨fun s f rest ht hl => ⟨fun hk => ?ping, fun hk => ?identity⟩, fun s f rest tag o ht hk hp => ?counters⟩
  case ping =>
    have hexec : exec .ping s = s.ends ((s.left rest).answer f .ok (s.left rest).pingData) :=
      State.onNode_command_of_takes ht (isKind_of_kind hk) (by simp [lengthIs, hl]) _
    obtain ⟨-, hpower, -⟩ := ht
    rw [hexec, pingData_of_active (by simpa using hpower)]
    rfl
  case identity =>
    have hexec : exec .readIdentity s = s.ends ((s.left rest).answer f .ok s.identity.bytes) :=
      State.onNode_command_of_takes ht (isKind_of_kind hk) (by simp [lengthIs, hl]) _
    rw [hexec]
    simp only [← codeByte_some, Identity.bytes, List.append_assoc, List.cons_append, List.nil_append]
    rfl
  case counters =>
    have hexec : exec .readLinkCounters s = s.ends ((s.left rest).judgeReadLinkCounters f) :=
      State.onNode_command_of_takes ht (isKind_of_kind hk) (by simp [lengthIs, hp]) _
    have hreport : s.li.counterBytes = laneReport s.li.laneRxS ++ laneReport s.li.laneRxN ++ laneReport s.li.laneTxS
        ++ laneReport s.li.laneTxN ++ put2 s.li.commandDrop ++ put2 s.li.replyDrop ++ put2 s.li.misaddressed := by
      simp only [LinkInterface.counterBytes, LaneCounters.bytes_eq]
    rw [hexec, judgeReadLinkCounters_eq hp, Node.left_li, hreport]
    refine ⟨fun ho => ?_, fun ho => ?_, fun ho => ?_⟩
    · subst ho
      rfl
    · subst ho
      rfl
    · rw [if_neg (by omega)]

end Sys2Proof.Machine
end

section
/-! SUPPORT. CONFIG_WRITE and CONFIG_READ (R187): the judgement of a CONFIG_WRITE said once, for a value taken, a value
refused, a wrong width and an unknown id; then each item. -/

namespace Sys2Proof.Machine

theorem knownItem_iff (i : Nat) : knownItem i = true ↔ 1 ≤ i ∧ i ≤ 15 := by
  simp [knownItem]

/-- R187: a row takes the CONFIG_WRITEs of its items, and those of no item. -/
theorem writesItem_of_item {f : Frame} {tag id : Byte} {value : List Byte} (hk : f.kind = 0x10)
    (hp : f.payload = tag :: id :: value) {lo hi : Nat}
    (h : (lo ≤ id.toNat ∧ id.toNat ≤ hi) ∨ id.toNat = 0 ∨ 15 < id.toNat) : writesItem lo hi f = true := by
  have hitem : f.item = some id.toNat := by simp [Frame.item, Frame.body, hp]
  have hkind : (f.kind == 0x10) = true := by simp [hk]
  simp only [writesItem, hkind, hitem, Bool.true_and, knownItem, Bool.or_eq_true, Bool.not_eq_true', Bool.and_eq_true,
    Bool.and_eq_false_iff, decide_eq_true_eq, decide_eq_false_iff_not]
  omega

section Judged
variable {α : Type} {value : Nat → List Byte → Option α} {effect : Nat → α → Node → Option (Node × Status)} {lo hi : Nat}
  {s : State} {f : Frame} {rest : List Frame} {tag id : Byte} {field : List Byte}

/-- R187: a CONFIG_WRITE row that takes a frame judges it. -/
theorem configWrite_of_takes (ht : s.Takes f rest) (hr : writesItem lo hi f = true) :
    s.onNode (Node.configWrite lo hi value effect) = s.ends (Node.judgeConfig value effect f (s.left rest)) :=
  State.onNode_command_of_takes ht hr rfl _

/-- R187: a value of the right width that the item takes. -/
theorem configWrite_of_effect (ht : s.Takes f rest) (hk : f.kind = 0x10) (hp : f.payload = tag :: id :: field)
    (hlo : lo ≤ id.toNat) (hhi : id.toNat ≤ hi) (hknown : 1 ≤ id.toNat ∧ id.toNat ≤ 15) {v : α}
    (hv : value id.toNat field = some v) {m : Node} {st : Status}
    (he : effect id.toNat v (s.left rest) = some (m, st)) :
    s.onNode (Node.configWrite lo hi value effect) = s.ends (m.answer f st []) := by
  rw [configWrite_of_takes ht (writesItem_of_item hk hp (.inl ⟨hlo, hhi⟩))]
  simp only [Node.judgeConfig, Frame.body, hp, List.tail_cons, (knownItem_iff _).mpr hknown, if_true, hv, he]

/-- R187: a value of the right width outside the item's values. -/
theorem configWrite_of_refused (ht : s.Takes f rest) (hk : f.kind = 0x10) (hp : f.payload = tag :: id :: field)
    (hlo : lo ≤ id.toNat) (hhi : id.toNat ≤ hi) (hknown : 1 ≤ id.toNat ∧ id.toNat ≤ 15) {v : α}
    (hv : value id.toNat field = some v) (he : effect id.toNat v (s.left rest) = none) :
    s.onNode (Node.configWrite lo hi value effect) = s.ends ((s.left rest).answer f .invalid []) := by
  rw [configWrite_of_takes ht (writesItem_of_item hk hp (.inl ⟨hlo, hhi⟩))]
  simp only [Node.judgeConfig, Frame.body, hp, List.tail_cons, (knownItem_iff _).mpr hknown, if_true, hv, he]

/-- R187: a value field of the wrong width. -/
theorem configWrite_of_width (ht : s.Takes f rest) (hk : f.kind = 0x10) (hp : f.payload = tag :: id :: field)
    (hlo : lo ≤ id.toNat) (hhi : id.toNat ≤ hi) (hknown : 1 ≤ id.toNat ∧ id.toNat ≤ 15)
    (hv : value id.toNat field = none) :
    s.onNode (Node.configWrite lo hi value effect) = s.ends ((s.left rest).answer f .badLength []) := by
  rw [configWrite_of_takes ht (writesItem_of_item hk hp (.inl ⟨hlo, hhi⟩))]
  simp only [Node.judgeConfig, Frame.body, hp, List.tail_cons, (knownItem_iff _).mpr hknown, if_true, hv]

/-- R187: an unknown id is refused whatever follows it. -/
theorem configWrite_of_unknown (ht : s.Takes f rest) (hk : f.kind = 0x10) (hp : f.payload = tag :: id :: field)
    (hid : id.toNat = 0 ∨ 15 < id.toNat) :
    s.onNode (Node.configWrite lo hi value effect) = s.ends ((s.left rest).answer f .invalid []) := by
  have hunknown : ¬knownItem id.toNat = true := fun h => by
    have := (knownItem_iff _).mp h
    omega
  rw [configWrite_of_takes ht (writesItem_of_item hk hp (.inr hid))]
  simp only [Node.judgeConfig, Frame.body, hp, List.tail_cons, hunknown, Bool.false_eq_true, if_false]

/-- R187: a frame with no item id. -/
theorem configWrite_of_short (ht : s.Takes f rest) (hk : f.kind = 0x10) (hl : f.payload.length ≤ 1) :
    s.onNode (Node.configWrite lo hi value effect) = s.ends ((s.left rest).answer f .badLength []) := by
  have hbody : f.body = [] := by
    rw [← List.length_eq_zero_iff, Frame.body, List.length_tail]
    omega
  have hrow : writesItem lo hi f = true := by simp [writesItem, Frame.item, hbody, hk]
  rw [configWrite_of_takes ht hrow]
  simp only [Node.judgeConfig, hbody]

end Judged

/-- R187: a plain item takes its values and refuses the others. -/
theorem configWrite_plain {ok : Nat → Bool} {set : Settings → Nat → Settings} {value : Nat → List Byte → Option Nat}
    {lo hi : Nat} {s : State} {f : Frame} {rest : List Frame} {tag id : Byte} {field : List Byte} (ht : s.Takes f rest)
    (hk : f.kind = 0x10) (hp : f.payload = tag :: id :: field) (hlo : lo ≤ id.toNat) (hhi : id.toNat ≤ hi)
    (hknown : 1 ≤ id.toNat ∧ id.toNat ≤ 15) {v : Nat} (hv : value id.toNat field = some v) :
    s.onNode (Node.configWrite lo hi value (plainItem ok set)) = if ok v = true
      then s.ends (((s.left rest).withCfg (set s.cfg v)).answer f .ok [])
      else s.ends ((s.left rest).answer f .invalid []) := by
  split
  · rename_i hok
    exact configWrite_of_effect ht hk hp hlo hhi hknown hv (by simp [plainItem, hok])
  · rename_i hok
    exact configWrite_of_refused ht hk hp hlo hhi hknown hv (by simp [plainItem, hok])

/-- R97: the four frame lengths. -/
theorem isFrameLength_iff (v : Nat) : isFrameLength v = true ↔ v ∈ [256, 512, 1024, 2048] := by
  simp [isFrameLength, or_assoc]

theorem toNat_beq_one (b : Byte) : (b.toNat == 1) = decide (b = 1) := by
  revert b
  decide

/-- Settles O12: seven plain items. -/
theorem plainItemsTakeTheirValues : Obligations.PlainItemsTakeTheirValues := by
  intro s f rest tag b1 b0 ht hk
  refine ⟨fun hp => ?_, fun hp => ?_, fun hp => ?_, fun hp => ?_, fun hp => ?_, fun hp => ?_, fun hp => ?_⟩
  · exact configWrite_plain ht hk hp (by decide) (by decide) (by decide) rfl
  · refine (configWrite_plain ht hk hp (by decide) (by decide) (by decide) rfl).trans ?_
    simp only [decide_eq_true_eq]
  · refine (configWrite_plain ht hk hp (by decide) (by decide) (by decide) rfl).trans ?_
    simp only [isFrameLength_iff]
    rfl
  · exact configWrite_plain ht hk hp (by decide) (by decide) (by decide) rfl
  · refine (configWrite_plain ht hk hp (by decide) (by decide) (by decide) rfl).trans ?_
    simp only [decide_eq_true_eq]
    rfl
  · refine (configWrite_plain ht hk hp (by decide) (by decide) (by decide) rfl).trans ?_
    simp only [decide_eq_true_eq]
    rfl
  · refine (configWrite_plain ht hk hp (by decide) (by decide) (by decide) rfl).trans ?_
    simp only [decide_eq_true_eq, toNat_beq_one]

/-! ### The items whose owners act at once -/

/-- R82: a clear, entry by entry. -/
theorem FaultTable.clear_entries (t : FaultTable) (k : FaultKind) (src : Nat) : t.clear k src = { t with
    entries := t.entries.map fun e => if e.kind = k ∧ e.source = src then { e with active := false } else e } := by
  simp only [FaultTable.clear, FaultTable.modify, Bool.and_eq_true, beq_iff_eq]

/-- R171: a restart of the silence timer. -/
theorem silenceRestart_eq (n : Node) : n.silenceRestart = n.silenceStarted n.cfg.silenceTimeout := by
  simp only [Node.silenceRestart, Node.clearFault, FaultTable.clear_entries, Node.silenceStarted]
  rfl

/-- R51: what a REPORT_LIST row asks of its list. -/
theorem writeReportList_iff (j : Byte) (codes : List Byte) :
    (j.toNat ≤ 3 ∧ (codes.map fun c => c.toNat).all isSource = true ∧ noRepeat (codes.map fun c => c.toNat) = true)
      ↔ j.toNat ≤ 3 ∧ (∀ c ∈ codes, 1 ≤ c.toNat ∧ c.toNat ≤ 21) ∧ codes.Nodup := by
  have hinj : Function.Injective fun c : Byte => c.toNat := fun _ _ h => BitVec.eq_of_toNat_eq h
  rw [Node.noRepeat_iff, List.nodup_map_iff hinj]
  simp [isSource_iff]

/-- Settles O13: each owner's effect of a write. -/
theorem ownedItemsActAtOnce : Obligations.OwnedItemsActAtOnce := by
  intro s f rest tag b j codes ht hk
  refine ⟨fun i hi hp => ?aux, fun hp => ?silence, fun hp => ?alertOff, fun hp => ?alertOn, fun hp hb => ?alertOther,
    fun hp => ?reportList⟩
  case aux =>
    have hids : ∀ i ∈ [1, 2, 3, 4], (BitVec.ofNat 8 (i + 1)).toNat = i + 1 ∧ 1 ≤ i ∧ i ≤ 4 := by decide
    have hroles : ∀ p ∈ [((0 : Byte), AuxRole.general), (1, AuxRole.heatIfLow), (2, AuxRole.heatIfHigh)],
        AuxRole.ofCode p.1.toNat = some p.2 := by decide
    obtain ⟨hid, hlow, hhigh⟩ := hids i hi
    have hwritten := fun (r : Option AuxRole) (h : AuxRole.ofCode b.toNat = r) => congrArg
      (Option.map fun r => ((s.left rest).withCfg ((s.left rest).cfg.setRole (i + 1 - 1) r), Status.ok)) h
    rw [← hid] at hwritten
    refine ⟨fun p hmem hb => ?_, fun hb => ?_⟩
    · have hrole : AuxRole.ofCode b.toNat = some p.2 := by
        rw [hb, hroles p hmem]
      refine (configWrite_of_effect ht hk hp (by omega) (by omega) (by omega) rfl (hwritten _ hrole)).trans ?_
      rw [hid, Nat.add_sub_cancel]
      rfl
    · have hrole : AuxRole.ofCode b.toNat = none := by
        obtain ⟨d, hd⟩ := Nat.exists_eq_add_of_lt hb
        rw [hd, show 2 + d + 1 = d + 3 by omega]
        rfl
      exact configWrite_of_refused ht hk hp (by omega) (by omega) (by omega) rfl (hwritten _ hrole)
  case silence =>
    refine (configWrite_of_effect ht hk hp (by decide) (by decide) (by decide) rfl rfl).trans ?_
    rw [silenceRestart_eq]
    rfl
  case alertOff => exact configWrite_of_effect ht hk hp (by decide) (by decide) (by decide) rfl rfl
  case alertOn => exact configWrite_of_effect ht hk hp (by decide) (by decide) (by decide) rfl rfl
  case alertOther =>
    refine configWrite_of_refused ht hk hp (by decide) (by decide) (by decide) rfl ?_
    obtain ⟨d, hd⟩ := Nat.exists_eq_add_of_lt hb
    rw [hd, show 1 + d + 1 = d + 2 by omega]
    rfl
  case reportList =>
    have hvalue : codes.length ≤ 21 → reportValue 15 (j :: codes) = some (j.toNat, codes.map fun c => c.toNat) :=
      fun h => if_pos h
    refine ⟨fun hlen => ?_, fun hlen hj hsources hnodup => ?_, fun hlen hbad => ?_⟩
    · exact configWrite_of_width ht hk hp (by decide) (by decide) (by decide) (if_neg (by omega))
    · exact configWrite_of_effect ht hk hp (by decide) (by decide) (by decide) (hvalue hlen)
        (if_pos ((writeReportList_iff j codes).mpr ⟨hj, hsources, hnodup⟩))
    · exact configWrite_of_refused ht hk hp (by decide) (by decide) (by decide) (hvalue hlen)
        (if_neg fun h => hbad ((writeReportList_iff j codes).mp h))

/-! ### The id and the width -/

/-- R184, R187: the items of a row of `writeRows`, and the width of its value field. -/
theorem writeRows_config : ∀ r ∈ writeRows, ∃ (value : Nat → List Byte → Option Nat)
    (effect : Nat → Nat → Node → Option (Node × Status)),
    (∀ i bytes, bytes.length ≠ r.2.2.2 → value i bytes = none) ∧ 1 ≤ r.2.1 ∧ r.2.2.1 ≤ 15
      ∧ ∀ s : State, exec r.1 s = s.onNode (Node.configWrite r.2.1 r.2.2.1 value effect) := by
  have hone : ∀ i (bytes : List Byte), bytes.length ≠ 1 → oneByte i bytes = none := fun i bytes h => by
    unfold oneByte
    split
    · exact absurd rfl h
    · rfl
  have htwo : ∀ i (bytes : List Byte), bytes.length ≠ 2 → twoBytes i bytes = none := fun i bytes h => by
    unfold twoBytes
    split
    · exact absurd rfl h
    · rfl
  simp only [writeRows, List.forall_mem_cons, List.not_mem_nil, false_implies, implies_true, and_true]
  exact ⟨⟨_, _, hone, by decide, by decide, fun _ => rfl⟩, ⟨_, _, hone, by decide, by decide, fun _ => rfl⟩,
    ⟨_, _, htwo, by decide, by decide, fun _ => rfl⟩, ⟨_, _, hone, by decide, by decide, fun _ => rfl⟩,
    ⟨_, _, htwo, by decide, by decide, fun _ => rfl⟩, ⟨_, _, hone, by decide, by decide, fun _ => rfl⟩,
    ⟨_, _, hone, by decide, by decide, fun _ => rfl⟩, ⟨_, _, hone, by decide, by decide, fun _ => rfl⟩,
    ⟨_, _, htwo, by decide, by decide, fun _ => rfl⟩, ⟨_, _, htwo, by decide, by decide, fun _ => rfl⟩,
    ⟨_, _, hone, by decide, by decide, fun _ => rfl⟩⟩

/-- Settles O14: the judgement looks at the id and then at the width. -/
theorem configWriteChecksIdAndWidth : Obligations.ConfigWriteChecksIdAndWidth := by
  intro s f rest tag id value ht hk
  refine ⟨fun r hr => ?_, fun hl => configWrite_of_short ht hk hl,
    fun hp => ⟨fun hid => configWrite_of_unknown ht hk hp hid, fun hid hnil => ?_⟩⟩
  · obtain ⟨read, effect, hwidth, hlow, hhigh, hexec⟩ := writeRows_config r hr
    rw [hexec]
    refine ⟨fun hl => configWrite_of_short ht hk hl, fun hp => ⟨fun hid => configWrite_of_unknown ht hk hp hid,
      fun hlo hhi hlen => ?_⟩⟩
    exact configWrite_of_width ht hk hp hlo hhi (by omega) (hwidth _ _ hlen)
  · subst hid hnil
    exact configWrite_of_width ht hk hp (by decide) (by decide) (by decide) rfl

/-! ### CONFIG_READ -/

/-- R187: the value of an item other than a REPORT_LIST. -/
theorem itemBytes_eq (c : Settings) {i : Nat} (hlow : 1 ≤ i) (hhigh : i ≤ 14) : c.itemBytes i 0 = itemValue c i 0 := by
  have hbool : ∀ b : Bool, put1 b.toNat = put1 (if b then 1 else 0) := by decide
  match i, hlow, hhigh with
  | 10, _, _ => exact hbool _
  | 14, _, _ => exact hbool _
  | 1, _, _ | 2, _, _ | 3, _, _ | 4, _, _ | 5, _, _ | 6, _, _ | 7, _, _ | 8, _, _ | 9, _, _ | 11, _, _ | 12, _, _
  | 13, _, _ => rfl

/-- R187: CONFIG_READ with an item id only. -/
theorem judgeConfigRead_of_id {n : Node} {f : Frame} {tag id : Byte} (hp : f.payload = [tag, id]) :
    n.judgeConfigRead f = if !knownItem id.toNat then n.answer f .invalid []
      else if id.toNat = 15 then n.answer f .badLength []
      else n.answer f .ok (id :: n.cfg.itemBytes id.toNat 0) := by
  simp only [Node.judgeConfigRead, Frame.body, hp, List.tail_cons]

/-- R187: CONFIG_READ with a list number. -/
theorem judgeConfigRead_of_list {n : Node} {f : Frame} {tag id j : Byte} (hp : f.payload = [tag, id, j]) :
    n.judgeConfigRead f = if !knownItem id.toNat then n.answer f .invalid []
      else if id.toNat = 15 then
        (if j.toNat ≤ 3 then n.answer f .ok (id :: n.cfg.itemBytes 15 j.toNat) else n.answer f .invalid [])
      else n.answer f .badLength [] := by
  simp only [Node.judgeConfigRead, Frame.body, hp, List.tail_cons]

/-- Settles O15: CONFIG_READ of LENGTH 2 and 3, by the item. -/
theorem configReadReportsTheItem : Obligations.ConfigReadReportsTheItem := by
  intro s f rest tag id j ht hk
  have hexec : f.payload.length = 2 ∨ f.payload.length = 3 →
      exec .configRead s = s.ends ((s.left rest).judgeConfigRead f) := fun hl =>
    State.onNode_command_of_takes ht (isKind_of_kind hk) (by simpa [lengthIs] using hl) _
  have hknown : ∀ i : Nat, 1 ≤ i → i ≤ 15 → ¬(!knownItem i) = true := fun i hlow hhigh => by
    simp [(knownItem_iff i).mpr ⟨hlow, hhigh⟩]
  have hunknown : ∀ i : Nat, i = 0 ∨ 15 < i → (!knownItem i) = true := fun i h => by
    have : ¬knownItem i = true := fun hk => by
      have := (knownItem_iff i).mp hk
      omega
    simpa using this
  refine ⟨fun hp hlow hhigh => ?_, fun hp hj => ?_, fun hp hj => ?_, fun hp hid => ?_, fun hp => ?_⟩
  · rw [hexec (by simp [hp]), judgeConfigRead_of_id hp, if_neg (hknown _ hlow (by omega)), if_neg (by omega),
      itemBytes_eq _ hlow hhigh]
    rfl
  · rw [hexec (by simp [hp]), judgeConfigRead_of_list hp, if_neg (hknown _ (by decide) (by decide)),
      if_pos (show (15 : Byte).toNat = 15 from rfl),
      if_pos hj]
    rfl
  · rw [hexec (by simp [hp]), judgeConfigRead_of_list hp, if_neg (hknown _ (by decide) (by decide)),
      if_pos (show (15 : Byte).toNat = 15 from rfl),
      if_neg (by omega)]
  · rcases hp with hp | hp
    · rw [hexec (by simp [hp]), judgeConfigRead_of_id hp, if_pos (hunknown _ hid)]
    · rw [hexec (by simp [hp]), judgeConfigRead_of_list hp, if_pos (hunknown _ hid)]
  · rcases hp with hp | ⟨hp, hlow, hhigh⟩
    · rw [hexec (by simp [hp]), judgeConfigRead_of_id hp, if_neg (hknown _ (by decide) (by decide)),
        if_pos (show (15 : Byte).toNat = 15 from rfl)]
    · rw [hexec (by simp [hp]), judgeConfigRead_of_list hp, if_neg (hknown _ hlow (by omega)), if_neg (by omega)]

end Sys2Proof.Machine
end

section
/-! SUPPORT. CONFIG_WRITE of POPULATION (R2, R3): the four conditions of a change, and what a change leaves. -/

namespace Sys2Proof.Machine

theorem isCell_iff (src : Nat) : isCell src = true ↔ 1 ≤ src ∧ src ≤ 14 := by
  simp [isCell]

/-- R2: no step of the plan is a cell above the population. -/
theorem planFits_iff (v : Nat) (p : Option Plan) :
    planFits v p = true ↔ ∀ q ∈ p, ∀ x ∈ q.steps, ¬(1 ≤ x.source ∧ x.source ≤ 14 ∧ v < x.source) := by
  have hstep : ∀ x : Step, (!isCell x.source || decide (x.source ≤ v)) = true
      ↔ ¬(1 ≤ x.source ∧ x.source ≤ 14 ∧ v < x.source) := fun x => by
    rw [Bool.or_eq_true, Bool.not_eq_true', ← Bool.not_eq_true, isCell_iff, decide_eq_true_eq]
    omega
  cases p with
  | none => simp [planFits]
  | some q => simp only [planFits, List.all_eq_true, hstep, Option.mem_some, forall_eq']

/-- R2: no channel has a budget or staged values. -/
theorem not_owes_not_staged_iff (e : Equalizer) :
    (e.owes = false ∧ e.hasStaged = false) ↔ ∀ c ∈ e.channels, c.budget = 0 ∧ c.staged = none := by
  simp only [Equalizer.owes, Equalizer.hasStaged, List.any_eq_false, ← forall_and, decide_eq_true_eq, Nat.not_lt,
    Nat.le_zero, Option.isSome_iff_ne_none, ne_eq, not_not]

/-- R2: when a change of the population is allowed. -/
theorem populationAllowed_iff (n : Node) (v : Nat) : n.populationAllowed v = true ↔ n.PopulationMayBecome v := by
  unfold Node.PopulationMayBecome
  rw [← planFits_iff, ← planFits_iff, ← not_owes_not_staged_iff]
  simp only [Node.populationAllowed, MaintenanceUnit.inFlight, Bool.and_eq_true, Bool.or_eq_true, beq_iff_eq,
    Bool.not_eq_true', bne_eq_false_iff_eq]
  tauto

/-- R3: a cell above a population that is itself a cell. -/
theorem aboveCell_iff {v : Nat} (hv : 4 ≤ v) (src : Nat) : aboveCell v src = true ↔ src ≤ 14 ∧ v < src := by
  rw [aboveCell, Bool.and_eq_true, isCell_iff, decide_eq_true_eq]
  omega

/-- R3: the node after a change of the population. -/
theorem changePopulation_eq {n : Node} {v : Nat} (hv : 4 ≤ v) : n.changePopulation v
    = ((((n.withCfg { n.cfg with population := v }).withRt
        (n.rt.map fun r => if r.source ≤ 14 ∧ v < r.source then { r with content := none } else r)).withLm {
        recs := n.lm.recs.map fun r => if r.source ≤ 14 ∧ v < r.source
          then { r with st := .normal, overCount := 0, underCount := 0, releaseCount := 0 } else r
        passSources := n.lm.passSources
        popMark := true }).withFt
        { n.ft with entries := n.ft.entries.map fun e =>
            if (e.kind = .cellHigh ∨ e.kind = .cellLow) ∧ e.source ≤ 14 ∧ v < e.source
            then { e with active := false } else e }).withEq
        { n.eq with channels := n.eq.channels.map fun c =>
            if v < c.num then { c with budget := 0, staged := none } else c } := by
  simp only [Node.changePopulation, emptyAbove, LimitMonitor.populationChange, FaultTable.populationChange,
    Equalizer.populationChange, aboveCell_iff hv, Bool.and_eq_true, Bool.or_eq_true, beq_iff_eq]
  rfl

/-- Settles O11: the value is out of range, the one the item holds, not allowed, or taken. -/
theorem populationWriteIsJudged : Obligations.PopulationWriteIsJudged := by
  intro s f rest tag b ht hk hp v
  have htaken : ∀ m st, Node.writePopulation (1 : Byte).toNat v (s.left rest) = some (m, st) →
      exec .configWritePopulation s = s.ends (m.answer f st []) := fun m st he =>
    configWrite_of_effect ht hk hp (by decide) (by decide) (by decide) rfl he
  refine ⟨fun hout => ?_, fun hlow hhigh hsame => ?_, fun hlow hhigh hne hno => ?_, fun hlow hhigh hne hyes => ?_⟩
  · exact configWrite_of_refused ht hk hp (by decide) (by decide) (by decide) rfl (if_neg (by omega))
  · refine htaken _ _ ?_
    rw [Node.writePopulation, if_pos ⟨hlow, hhigh⟩, if_pos (by exact hsame)]
  · refine htaken _ _ ?_
    rw [Node.writePopulation, if_pos ⟨hlow, hhigh⟩, if_neg (by exact hne),
      if_neg (fun h => hno ((populationAllowed_iff (s.left rest) v).mp h))]
  · refine (htaken ((s.left rest).changePopulation v) .ok ?_).trans ?_
    · rw [Node.writePopulation, if_pos ⟨hlow, hhigh⟩, if_neg (by exact hne),
        if_pos ((populationAllowed_iff (s.left rest) v).mpr hyes)]
    · rw [changePopulation_eq hlow]
      rfl

end Sys2Proof.Machine
end

section
/-! SUPPORT. LIMIT_WRITE and LIMIT_READ (R61 to R63): the limit fields, the sources of the mask, when the operands are
accepted, and the record of a source. -/

namespace Sys2Proof.Machine

/-- R183: a field of two bytes, as a 16-bit word. -/
theorem append_toNat (b1 b0 : Byte) : (b1 ++ b0 : BitVec 16).toNat = two b1 b0 := by
  rw [BitVec.toNat_append, ← Nat.shiftLeft_add_eq_or_of_lt b0.isLt, Nat.shiftLeft_eq]
  rfl

/-- R183: a signed field of two bytes. -/
theorem readSigned2_eq (b1 b0 : Byte) :
    readSigned2 b1 b0 = if two b1 b0 < 32768 then (two b1 b0 : Int) else two b1 b0 - 65536 := by
  have hhalf : 2 * two b1 b0 < 2 ^ 16 ↔ two b1 b0 < 32768 := by omega
  rw [readSigned2, BitVec.toInt_eq_toNat_cond, append_toNat]
  simp only [hhalf]
  rfl

/-- R61: a limit field, as its source reads it. -/
theorem readLimit_eq (src : Nat) (b1 b0 : Byte) : readLimit src b1 b0 = limitValue src b1 b0 := by
  rw [readLimit, limitValue, readSigned2_eq]
  rfl

/-- R61: the configuration the operands give to a source. -/
theorem LimitOperands.cfg_eq (o : LimitOperands) (src : Nat) : o.cfg src = {
    upper := limitField (o.flags.getLsbD 0) src o.upper1 o.upper0
    lower := limitField (o.flags.getLsbD 1) src o.lower1 o.lower0
    p := o.p } := by
  simp only [LimitOperands.cfg, readLimit_eq, limitField]

theorem limitInRange_iff (src : Nat) (v : Option Int) :
    limitInRange src v = true ↔ ∀ u ∈ v, sourceLow src ≤ u ∧ u ≤ sourceHigh src := by
  cases v <;> simp [limitInRange]

/-- R61: a configuration its source can take. -/
theorem LimitCfg.fits_iff (c : LimitCfg) (src : Nat) : c.fits src = true ↔
    (∀ u ∈ c.upper, sourceLow src ≤ u ∧ u ≤ sourceHigh src)
      ∧ (∀ l ∈ c.lower, sourceLow src ≤ l ∧ l ≤ sourceHigh src) ∧ (∀ u ∈ c.upper, ∀ l ∈ c.lower, l ≤ u) := by
  have horder : (match c.lower, c.upper with
      | some l, some u => decide (l ≤ u)
      | _, _ => true) = true ↔ ∀ u ∈ c.upper, ∀ l ∈ c.lower, l ≤ u := by
    cases c.lower <;> cases c.upper <;> simp
  rw [← limitInRange_iff, ← limitInRange_iff, ← horder]
  simp only [LimitCfg.fits, Bool.and_eq_true, and_assoc] <;> rfl

theorem read3_lt (b2 b1 b0 : Byte) : read3 b2 b1 b0 < 2 ^ 24 := by
  have h2 := b2.isLt
  have h1 := b1.isLt
  have h0 := b0.isLt
  unfold read3
  omega

/-- R183: a mask of 24 bits is not empty when it names a code. -/
theorem mask_ne_zero_iff {mask : Nat} (h : mask < 2 ^ 24) :
    mask ≠ 0 ↔ ∃ c ∈ List.range 24, mask.testBit c = true := by
  refine ⟨fun hne => ?_, fun ⟨c, _, hc⟩ hzero => by simp [hzero] at hc⟩
  obtain ⟨c, hc⟩ := Nat.exists_testBit_of_ne_zero hne
  refine ⟨c, List.mem_range.mpr ?_, hc⟩
  by_contra hge
  have hlt : mask < 2 ^ c := h.trans_le (Nat.pow_le_pow_right (by decide) (by omega))
  rw [Nat.testBit_lt_two_pow hlt] at hc
  cases hc

/-- R61, R183: when LIMIT_WRITE is accepted. -/
theorem LimitOperands.accepted_iff {o : LimitOperands} (hmask : o.mask < 2 ^ 24) : o.accepted = true ↔
    o.flags.toNat < 4 ∧ 1 ≤ o.p ∧ o.p ≤ 15 ∧ (∃ src ∈ List.range 24, o.mask.testBit src = true)
      ∧ ∀ src ∈ List.range 24, o.mask.testBit src = true → (1 ≤ src ∧ src ≤ 20) ∧ (o.cfg src).fits src = true := by
  rw [← mask_ne_zero_iff hmask]
  simp only [LimitOperands.accepted, Bool.and_eq_true, onlyBitsBelow, decide_eq_true_eq, List.all_eq_true,
    mem_sourcesOfMask, limitWritable, List.mem_range, and_imp]
  refine ⟨fun ⟨⟨⟨⟨⟨hflags, hne⟩, hcodes⟩, hlow⟩, hhigh⟩, hfits⟩ =>
      ⟨hflags, hlow, hhigh, hne, fun src hsrc hbit => ⟨hcodes src hsrc hbit, hfits src hsrc hbit⟩⟩,
    fun ⟨hflags, hlow, hhigh, hne, hall⟩ => ⟨⟨⟨⟨⟨hflags, hne⟩, fun src hsrc hbit => (hall src hsrc hbit).1⟩, hlow⟩, hhigh⟩,
      fun src hsrc hbit => (hall src hsrc hbit).2⟩⟩

/-- R62: the limit records after a write, in the words of the mask. -/
theorem LimitMonitor.write_sourcesOfMask (m : LimitMonitor) (mask : Nat) (cfg : Nat → LimitCfg) :
    m.write (sourcesOfMask mask) cfg = { m with recs := m.recs.map fun r =>
      if r.source < 24 ∧ (mask.testBit r.source = true) then { r.zeroCounts with cfg := cfg r.source } else r } := by
  simp only [LimitMonitor.write, List.contains_iff_mem, mem_sourcesOfMask]

/-- R185: the flags of a record's limits. -/
theorem limitFlags_eq (hasUpper hasLower : Bool) :
    flagBit 0 hasUpper ||| flagBit 1 hasLower = BitVec.ofNat 8 (hasUpper.toNat + 2 * hasLower.toNat) := by
  revert hasUpper hasLower
  decide

/-- R59: a record is found by its source. -/
theorem find_of_limitTableLaw {n : Node} (hlaw : n.LimitTableLaw) {r : LimitRec} (hr : r ∈ n.lm.recs) :
    n.lm.find r.source = some r := by
  have hnodup : (n.lm.recs.map LimitRec.source).Nodup := by
    rw [hlaw]
    decide
  cases hfind : n.lm.find r.source with
  | none => simpa using List.find?_eq_none.mp hfind r hr
  | some x =>
    have hsrc : x.source = r.source := by simpa using List.find?_some hfind
    rw [List.inj_on_of_nodup_map hnodup (List.mem_of_find?_eq_some hfind) hr hsrc]

/-- R59: the sources that have a record. -/
theorem exists_record_iff {n : Node} (hlaw : n.LimitTableLaw) (src : Nat) :
    (∃ r ∈ n.lm.recs, r.source = src) ↔ 1 ≤ src ∧ src ≤ 21 := by
  rw [← List.mem_map, hlaw, sourceCodes, List.mem_range'_1, Config.sources]
  omega

/-- R63: LIMIT_READ judged, by its code. -/
theorem judgeLimitRead_eq {n : Node} {f : Frame} {tag b : Byte} (hp : f.payload = [tag, b]) :
    n.judgeLimitRead f = match n.lm.find b.toNat with
      | none => n.answer f .invalid []
      | some r => if isSource b.toNat then n.answer f .ok r.bytes else n.answer f .invalid [] := by
  simp only [Node.judgeLimitRead, Frame.body, hp, List.tail_cons, List.headD_cons] <;> rfl

/-- Settles O16: LIMIT_WRITE's operands are accepted or not; LIMIT_READ's code has a record or none. -/
theorem limitsAreWrittenAndRead : Obligations.LimitsAreWrittenAndRead := by
  refine ⟨fun s f rest tag m2 m1 m0 fl u1 u0 l1 l0 p ht hk hp => ?written,
    fun s f rest tag b hlaw ht hk hp => ?read⟩
  case written =>
    intro named upper lower good
    have haccepted := LimitOperands.accepted_iff (o := {
      mask := read3 m2 m1 m0, flags := fl, upper1 := u1, upper0 := u0, lower1 := l1, lower0 := l0, p := p.toNat })
      (read3_lt m2 m1 m0)
    simp only [LimitCfg.fits_iff, LimitOperands.cfg_eq, and_assoc] at haccepted
    have hexec : exec .limitWrite s = s.ends ((s.left rest).judgeLimitWrite f) :=
      State.onNode_command_of_takes ht (isKind_of_kind hk) (by simp [lengthIs, hp]) _
    have hread : readLimitOperands f.body = some {
        mask := read3 m2 m1 m0, flags := fl, upper1 := u1, upper0 := u0, lower1 := l1, lower0 := l0
        p := p.toNat } := by
      simp only [Frame.body, hp, List.tail_cons, readLimitOperands]
    simp only [hexec, Node.judgeLimitWrite, hread]
    refine ⟨fun hgood => ?_, fun hbad => ?_⟩
    · rw [if_pos (haccepted.mpr hgood), LimitMonitor.write_sourcesOfMask]
      simp only [LimitOperands.cfg_eq]
      rfl
    · rw [if_neg fun h => hbad (haccepted.mp h)]
  case read =>
    have hexec : exec .limitRead s = s.ends ((s.left rest).judgeLimitRead f) :=
      State.onNode_command_of_takes ht (isKind_of_kind hk) (by simp [lengthIs, hp]) _
    refine ⟨fun r hr hsrc => ?_, fun hout => ?_, fun hlow hhigh => (exists_record_iff hlaw _).mpr ⟨hlow, hhigh⟩⟩
    · have hsource : isSource b.toNat = true := (isSource_iff _).mpr ((exists_record_iff hlaw _).mp ⟨r, hr, hsrc⟩)
      have hfind : (s.left rest).lm.find b.toNat = some r := hsrc ▸ find_of_limitTableLaw hlaw hr
      simp only [hexec, judgeLimitRead_eq hp, hfind, hsource, if_true, LimitRec.bytes, LimitCfg.bytes, limitFlags_eq,
        List.append_assoc]
    · have hnone : ¬isSource b.toNat = true := fun h => by
        have := (isSource_iff _).mp h
        omega
      rw [hexec, judgeLimitRead_eq hp]
      split
      · rfl
      · rw [if_neg hnone]

end Sys2Proof.Machine
end

section
/-! SUPPORT. STORE_SAVE, its completion and STORE_DEFAULTS (R189, R190). -/

namespace Sys2Proof.Machine

/-- R189: a save that begins. -/
theorem beginSave_eq {n : Node} {f : Frame} {tag : Byte} (hp : f.payload = [tag]) : n.beginSave f = n.withSs {
    image := none
    saving := some {
      snapshot := {
        settings := n.cfg
        limits := (n.lm.recs.filter fun r => decide (r.source ≤ 20)).map fun r => r.cfg
        trim := n.cu.trim
        plan := n.seq.active }
      tag := tag
      broadcast := decide (f.address = 63)
      endsAt := n.now + 40000 } } := by
  have htag : f.tag = tag := by simp [Frame.tag, hp]
  have hbroadcast : f.isBroadcast = decide (f.address = 63) := beq_eq_decide _ _
  rw [Node.beginSave, htag, hbroadcast]
  rfl

/-- R190: the conditions of STORE_DEFAULTS. -/
theorem defaultsAllowed_iff (n : Node) : n.defaultsAllowed = true ↔
    n.seq.st = .stopped ∧ n.eq.st = .idle ∧ (∀ c ∈ n.eq.channels, c.staged = none) ∧ n.mu.st = .idle := by
  simp [Node.defaultsAllowed, Equalizer.hasStaged, MaintenanceUnit.inFlight, and_assoc]

/-- R190: the node with the factory values. -/
theorem restoreDefaults_eq (n : Node) : n.restoreDefaults
    = (((n.withCfg Settings.factory).withLm {
        recs := n.lm.recs.map fun r => if 1 ≤ r.source ∧ r.source ≤ 20
          then { r with cfg := LimitCfg.factory r.source, overCount := 0, underCount := 0, releaseCount := 0 } else r
        passSources := n.lm.passSources
        popMark := n.lm.popMark || decide (n.cfg.population ≠ 14) }).withCu
        { n.cu with trim := n.identity.factoryTrim }).silenceStarted 8 := by
  have hsrc : ∀ src, (List.range' 1 20).contains src = true ↔ 1 ≤ src ∧ src ≤ 20 := fun src => by
    rw [List.contains_iff_mem, List.mem_range'_1]
    omega
  have hchanged : (n.cfg.population != 14) = decide (n.cfg.population ≠ 14) := by
    simp [bne, beq_eq_decide]
  simp only [Node.restoreDefaults, silenceRestart_eq, LimitMonitor.write, hsrc, hchanged]
  rfl

/-- Settles O17: the save begun and ended, and the factory values. -/
theorem theStoreSavesAndRestores : Obligations.TheStoreSavesAndRestores := by
  refine ⟨fun s f rest tag ht hk hp => ?save, fun s v hv hdue => ?saved, fun s f rest ht hk hl => ?defaults⟩
  case save =>
    have hexec : exec .storeSave s = s.ends ((s.left rest).judgeStoreSave f) :=
      State.onNode_command_of_takes ht (isKind_of_kind hk) (by simp [lengthIs, hp]) _
    rw [hexec, Node.judgeStoreSave, Node.left_ss, beginSave_eq hp]
    refine ⟨fun hsaving => ?_, fun hsaving => ?_⟩
    · rw [if_pos (Option.isSome_iff_ne_none.mpr hsaving)]
    · rw [if_neg (by simp [hsaving])]
      rfl
  case saved =>
    intro n
    have hrow : s.saveExpiry = (Node.saveEnd v (s.withNow v.endsAt)).finish := by
      simp only [Node.saveExpiry, hv, Node.timed_of_due hdue]
    have hexec : exec .storeSaveComplete s = s.ends (Node.saveEnd v (s.withNow v.endsAt)) :=
      (State.onNode_eq s _).trans (by rw [hrow, State.ends])
    rw [hexec, Node.saveEnd, Node.clearFault, FaultTable.clear_entries]
    rfl
  case defaults =>
    have hexec : exec .storeDefaults s = s.ends ((s.left rest).judgeStoreDefaults f) :=
      State.onNode_command_of_takes ht (isKind_of_kind hk) (by simp [lengthIs, hl]) _
    intro allowed
    rw [hexec, Node.judgeStoreDefaults]
    refine ⟨fun hno => ?_, fun hyes => ?_⟩
    · rw [if_neg (fun h => hno ((defaultsAllowed_iff (s.left rest)).mp h))]
    · rw [if_pos ((defaultsAllowed_iff (s.left rest)).mpr hyes), restoreDefaults_eq]
      rfl

end Sys2Proof.Machine
end

section
/-! SUPPORT. PLAN_WRITE and PLAN_READ (R19 to R21): the bytes of a step and of a plan, and the plan a frame spells. -/

namespace Sys2Proof.Machine

/-! ### Steps -/

/-- R183: a sample code outside 0 to 4 has no meaning. -/
theorem samplesOfCode_eq (c : Nat) : samplesOfCode c = [1, 2, 4, 8, 16][c]? := by
  match c with
  | 0 => rfl
  | 1 => rfl
  | 2 => rfl
  | 3 => rfl
  | 4 => rfl
  | _ + 5 => rfl

/-- R183: a kind code outside 0 to 2 has no meaning. -/
theorem convKindOfCode_eq (c : Nat) : ConvKind.ofCode c = [ConvKind.fast, .normal, .fine][c]? := by
  match c with
  | 0 => rfl
  | 1 => rfl
  | 2 => rfl
  | _ + 3 => rfl

/-- R184: the quiet flag of a step byte below 64. -/
theorem quietFlag_eq (b : Byte) (h : b.toNat < 64) : b.getLsbD 5 = decide (32 ≤ b.toNat) := by
  revert b
  decide

/-- R184: a step of two bytes. -/
theorem readStep_eq (b0 b1 : Byte) : readStep b0 b1 = stepOf b0 b1 := by
  unfold readStep stepOf
  simp only [samplesOfCode_eq, convKindOfCode_eq, isSource_iff]
  by_cases h : 1 ≤ b0.toNat ∧ b0.toNat ≤ 21 ∧ b1.toNat < 64
  · obtain ⟨hlow, hhigh, hlt⟩ := h
    simp only [hlow, hhigh, hlt, and_self, if_true, quietFlag_eq b1 hlt] <;> rfl
  · have h' : ¬(b1.toNat < 64 ∧ 1 ≤ b0.toNat ∧ b0.toNat ≤ 21) := by omega
    simp only [h, h', if_false]
    split <;> rfl

/-- R184: the steps of a PLAN_WRITE. -/
theorem readSteps_eq : ∀ l : List Byte, readSteps l = stepsOf l
  | [] => rfl
  | [_] => rfl
  | b0 :: b1 :: l => by
    rw [readSteps, stepsOf, readStep_eq, readSteps_eq l]
    cases stepOf b0 b1 <;> cases stepsOf l <;> rfl

theorem stepOf_source {b0 b1 : Byte} {x : Step} (h : stepOf b0 b1 = some x) : 1 ≤ x.source := by
  unfold stepOf at h
  split at h
  · split at h
    · rename_i hrange
      cases h
      exact hrange.1
    · cases h
  · cases h

/-- R184: a step that reads names a source. -/
theorem stepsOf_source : ∀ {l : List Byte} {steps : List Step}, stepsOf l = some steps → ∀ x ∈ steps, 1 ≤ x.source
  | [], _, h => by cases h; simp
  | [_], _, h => by cases h
  | b0 :: b1 :: l, steps, h => by
    simp only [stepsOf, Option.bind_eq_some_iff, Option.map_eq_some_iff] at h
    obtain ⟨y, hy, rest, hrest, rfl⟩ := h
    intro x hx
    rcases List.mem_cons.mp hx with rfl | hx
    · exact stepOf_source hy
    · exact stepsOf_source hrest x hx

/-- R19: a step the sequencer accepts. -/
theorem allowed_iff {x : Step} (hx : 1 ≤ x.source) (n : Nat) : x.allowed n = true ↔ x.MayStand n := by
  unfold Step.MayStand
  simp only [Step.allowed, isCell, srcStack, Bool.and_eq_true, Bool.or_eq_true, Bool.not_eq_true', Bool.and_eq_false_iff,
    decide_eq_true_eq, decide_eq_false_iff_not, beq_iff_eq]
  cases x.quiet <;> simp <;> omega

/-- R19: the steps the sequencer accepts. -/
theorem all_allowed_iff {l : List Byte} {steps : List Step} (h : stepsOf l = some steps) (n : Nat) :
    (steps.all fun x => x.allowed n) = true ↔ ∀ x ∈ steps, x.MayStand n := by
  rw [List.all_eq_true]
  exact forall₂_congr fun x hx => allowed_iff (stepsOf_source h x hx) n

/-! ### Plans -/

/-- R183: the mode of a mode byte of the list. -/
theorem modeOfCode_of_le (b : Byte) (h : b.toNat ≤ 1) :
    Mode.ofCode b.toNat = some (if b = 0 then .single else .continuous) := by
  revert b
  decide

theorem modeOfCode_of_gt {c : Nat} (h : 1 < c) : Mode.ofCode c = none := by
  obtain ⟨d, rfl⟩ := Nat.exists_eq_add_of_lt h
  rw [show 1 + d + 1 = d + 2 by omega]
  rfl

/-- R19: a plan whose steps read and may stand. -/
theorem readPlan_of_good {n : Nat} {mode i1 i0 count : Byte} {body : List Byte} (hcount : count.toNat ≤ 24)
    (hmode : mode.toNat ≤ 1) {steps : List Step} (hsteps : stepsOf body = some steps) (hstand : ∀ x ∈ steps, x.MayStand n) :
    readPlan n mode i1 i0 count body
      = some { mode := if mode = 0 then .single else .continuous, interval := two i1 i0, steps := steps } := by
  have hall : (steps.all fun x => x.allowed n) = true := (all_allowed_iff hsteps n).mpr hstand
  simp only [readPlan, if_neg (Nat.not_lt.mpr hcount), modeOfCode_of_le mode hmode, readSteps_eq, hsteps, hall, if_true]
  rfl

/-- R19: a plan with too many steps, an unknown mode, or steps that do not read or may not stand. -/
theorem readPlan_of_bad {n : Nat} {mode i1 i0 count : Byte} {body : List Byte}
    (h : 24 < count.toNat ∨ 1 < mode.toNat ∨ stepsOf body = none
      ∨ ∃ l ∈ stepsOf body, ∃ x ∈ l, ¬x.MayStand n) : readPlan n mode i1 i0 count body = none := by
  by_cases hcount : 24 < count.toNat
  · rw [readPlan, if_pos hcount]
  · rw [readPlan, if_neg hcount, readSteps_eq]
    obtain h | h | h | ⟨l, hl, x, hx, hbad⟩ := h
    · exact absurd h hcount
    · rw [modeOfCode_of_gt h]
    · rw [h]
      split
      · rename_i hnone
        cases hnone
      · rfl
    · have hnot : ¬(l.all fun x => x.allowed n) = true := fun hall =>
        hbad ((all_allowed_iff hl n).mp hall x hx)
      rw [Option.mem_def.mp hl]
      split
      · rename_i hsome
        cases hsome
        rw [if_neg hnot]
      · rfl

/-- R184: the length of a PLAN_WRITE with its four fixed bytes. -/
theorem planLength_cons (tag mode i1 i0 count : Byte) (body : List Byte) :
    planLength (tag :: mode :: i1 :: i0 :: count :: body) = decide (body.length = 2 * count.toNat) := by
  simp only [planLength, List.getElem?_cons_succ, List.getElem?_cons_zero, List.length_cons]
  rw [Bool.eq_iff_iff, beq_iff_eq, decide_eq_true_eq]
  omega

theorem planLength_of_short {p : List Byte} (h : p.length < 5) : planLength p = false := by
  have hnone : p[4]? = none := List.getElem?_eq_none (by omega)
  simp only [planLength, hnone]

/-- R19, R20: PLAN_WRITE judged, by its fields. -/
theorem judgePlanWrite_eq {n : Node} {f : Frame} {tag mode i1 i0 count : Byte} {body : List Byte}
    (hp : f.payload = tag :: mode :: i1 :: i0 :: count :: body) :
    n.judgePlanWrite f = if count.toNat = 0 then (n.withSeq { n.seq with staged := none }).answer f .ok []
      else match readPlan n.cfg.population mode i1 i0 count body with
        | none => n.answer f .invalid []
        | some p => (n.withSeq { n.seq with staged := some p }).answer f .ok [] := by
  simp only [Node.judgePlanWrite, Frame.body, hp, List.tail_cons] <;> rfl

/-- Settles O18: the length fits or not, the plan is empty, reads or does not. -/
theorem planWriteStagesAPlan : Obligations.PlanWriteStagesAPlan := by
  intro s f rest tag mode i1 i0 count body ht hk
  refine ⟨fun hshort => State.onNode_command_of_badLength ht (isKind_of_kind hk) (planLength_of_short hshort) _,
    fun hp => ⟨fun hlen => ?badLength, fun hlen => ?judged⟩⟩
  case badLength =>
    exact State.onNode_command_of_badLength ht (isKind_of_kind hk) (by rw [hp, planLength_cons, decide_eq_false hlen]) _
  case judged =>
    have hexec : exec .planWrite s = s.ends ((s.left rest).judgePlanWrite f) :=
      State.onNode_command_of_takes ht (isKind_of_kind hk) (by rw [hp, planLength_cons, decide_eq_true hlen]) _
    rw [hexec, judgePlanWrite_eq hp]
    refine ⟨fun hzero => ?_, fun hlow hhigh hmode l hl hstand => ?_, fun hbad => ?_⟩
    · rw [if_pos (by simp [hzero])]
      rfl
    · rw [if_neg (by omega), readPlan_of_good (n := (s.left rest).cfg.population) hhigh hmode hl hstand]
      rfl
    · have hcount : count.toNat ≠ 0 := fun hzero => by
        have hnil : body = [] := List.length_eq_zero_iff.mp (by omega)
        have hcount : count = 0 := BitVec.eq_of_toNat_eq hzero
        simp [hnil, hcount, stepsOf] at hbad
      have hbad' : 24 < count.toNat ∨ 1 < mode.toNat ∨ stepsOf body = none
          ∨ ∃ l ∈ stepsOf body, ∃ x ∈ l, ¬x.MayStand (s.left rest).cfg.population :=
        hbad.imp_right fun h => h.imp_left fun h => h.2
      rw [if_neg hcount, readPlan_of_bad hbad']

theorem Step.bytes_eq (x : Step) : x.bytes
    = [BitVec.ofNat 8 x.source, BitVec.ofNat 8 (samplesCode x.samples + 8 * x.kind.code + 32 * x.quiet.toNat)] := by
  have hcast : ((samplesCode x.samples : Int) + 8 * x.kind.code + 32 * x.quiet.toNat)
      = ((samplesCode x.samples + 8 * x.kind.code + 32 * x.quiet.toNat : Nat) : Int) := by push_cast; rfl
  rw [Step.bytes, hcast, put1_natCast, put1_natCast]
  rfl

/-- R21: the bytes of a plan are its report. -/
theorem Plan.bytes_eq (p : Plan) : p.bytes = planReport p := by
  have hbytes : Step.bytes = fun x : Step => [BitVec.ofNat 8 x.source,
      BitVec.ofNat 8 (samplesCode x.samples + 8 * x.kind.code + 32 * x.quiet.toNat)] := funext Step.bytes_eq
  rw [Plan.bytes, planReport, hbytes]

/-- R21: PLAN_READ judged, by its selector. -/
theorem judgePlanRead_eq {n : Node} {f : Frame} {tag place : Byte} (hp : f.payload = [tag, place]) :
    n.judgePlanRead f = if 1 < place.toNat then n.answer f .invalid []
      else match n.seq.place place.toNat with
        | none => n.answer f .notFound []
        | some p => n.answer f .ok (planReport p) := by
  simp only [Node.judgePlanRead, Frame.body, hp, List.tail_cons, List.headD_cons, Plan.bytes_eq] <;> rfl

/-- Settles O19: the place named holds a plan, none, or is no place. -/
theorem planReadReportsAPlace : Obligations.PlanReadReportsAPlace := by
  refine ⟨fun s f rest tag place ht hk hp => ?_, fun n p hp => ⟨by simp [Node.activate, hp], by simp [Node.activate]⟩⟩
  have hexec : exec .planRead s = s.ends ((s.left rest).judgePlanRead f) :=
    State.onNode_command_of_takes ht (isKind_of_kind hk) (by simp [lengthIs, hp]) _
  have hactive : s.seq.place (0 : Byte).toNat = s.seq.active := rfl
  have hstaged : s.seq.place (1 : Byte).toNat = s.seq.staged := rfl
  rw [hexec, judgePlanRead_eq hp, Node.left_seq]
  refine ⟨fun hplace p hmem => ?_, fun hplace p hmem => ?_, fun hnone => ?_, fun hplace => by rw [if_pos hplace]⟩
  · subst hplace
    rw [if_neg (by decide), hactive, Option.mem_def.mp hmem]
  · subst hplace
    rw [if_neg (by decide), hstaged, Option.mem_def.mp hmem]
  · rcases hnone with ⟨hplace, hempty⟩ | ⟨hplace, hempty⟩
    · subst hplace
      rw [if_neg (by decide), hactive, hempty]
    · subst hplace
      rw [if_neg (by decide), hstaged, hempty]

end Sys2Proof.Machine
end

section
/-! SUPPORT. SCAN_START, SCAN_STOP and SCAN_STATUS (R36 to R39). -/

namespace Sys2Proof.Machine

/-- R22, R24: a pass start with an activation. -/
theorem passStart_of_activation {n : Node} {p : Plan} (hp : p ∈ n.seq.staged.or n.seq.active) : n.passStart true
    = (((n.withSeq {
        active := some p
        staged := none
        st := .waitingCu
        epoch := n.seq.epoch + 1
        passCounter := if n.seq.passCounter < 65535 then n.seq.passCounter + 1 else 1
        passDone := false
        late := n.seq.late
        stepIndex := none
        due := (match p.mode with
          | .single => none
          | .continuous => some (n.now + p.interval * 1000))
        passStart := some n.now
        acc := none }).withRt
        (n.rt.map fun r => { r with content := r.content.map fun w => { w with fresh := false } })).withLm
        { n.lm with passSources := [], popMark := false }).leaseRequest .seq := by
  have hplan : (n.seq.staged = some p) ∨ (n.seq.staged = none ∧ n.seq.active = some p) := by
    cases hst : n.seq.staged with
    | none => exact .inr ⟨rfl, by simpa [hst] using hp⟩
    | some q => exact .inl (by simpa [hst] using hp)
  rcases hplan with hst | ⟨hst, hact⟩
  · simp only [Node.passStart, Bool.true_or, if_true, Node.activate, Node.advancePass, Node.nextDue, hst, Node.withSeq_seq,
      Node.withRt_seq, Node.withLm_seq]
    cases p.mode <;> rfl
  · simp only [Node.passStart, Bool.true_or, if_true, Node.activate, Node.advancePass, Node.nextDue, hst, hact,
      Node.withSeq_seq, Node.withRt_seq, Node.withLm_seq]
    cases p.mode <;> rfl

/-- Settles O20: SCAN_START is refused, finds no plan, or activates one and starts a pass. -/
theorem scanStartActivatesAndStartsAPass : Obligations.ScanStartActivatesAndStartsAPass := by
  intro s f rest ht hk hl
  have hexec : exec .scanStart s = s.ends ((s.left rest).judgeScanStart f) :=
    State.onNode_command_of_takes ht (isKind_of_kind hk) (by simp [lengthIs, hl]) _
  have hfree : s.seq.st = .stopped → s.mu.st = .idle →
      ¬((s.left rest).seq.st ≠ .stopped ∨ (s.left rest).mu.inFlight = true) := fun hst hmu => by
    simp [hst, MaintenanceUnit.inFlight, hmu]
  rw [hexec, Node.judgeScanStart]
  refine ⟨fun hbusy => ?_, fun hst hmu hstaged hactive => ?_, fun hst hmu p hp => ?_⟩
  · rw [if_pos (by simpa [MaintenanceUnit.inFlight] using hbusy)]
  · rw [if_neg (hfree hst hmu), if_pos (by simp [hstaged, hactive])]
  · have hplan : ¬((s.left rest).seq.staged.isNone && (s.left rest).seq.active.isNone) = true := fun h => by
      simp only [Node.left_seq, Bool.and_eq_true, Option.isNone_iff_eq_none] at h
      simp [h.1, h.2] at hp
    rw [if_neg (hfree hst hmu), if_neg hplan, passStart_of_activation (n := s.left rest) hp]
    rfl

theorem ne_filter_eq (l : List Client) (c : Client) :
    (l.filter fun d => d != c) = l.filter fun d => decide (d ≠ c) := by
  refine List.filter_congr fun d _ => ?_
  cases d <;> cases c <;> rfl

/-- R37: what stopping clears. -/
def Node.halted (n : Node) : Node :=
  n.withSeq { n.seq with st := .stopped, stepIndex := none, acc := none, due := none }

theorem seqStop_of_stopped {n : Node} (h : n.seq.st = .stopped) : n.seqStop = n := by
  simp [Node.seqStop, h]

theorem seqStop_of_gap {n : Node} (h : n.seq.st = .passGap ∨ n.seq.st = .deferred) : n.seqStop = n.halted := by
  rcases h with h | h <;> simp only [Node.seqStop, h, Node.halted]

theorem seqStop_of_waiting {n : Node} (h : n.seq.st = .waitingCu) : n.seqStop = n.halted.leaseWithdraw .seq := by
  simp only [Node.seqStop, h, Node.halted]

theorem seqStop_of_quiet {n : Node} (h : n.seq.st = .quietWait ∨ n.seq.st = .converting) :
    n.seqStop = (n.halted.quietRelease .seq).leaseRelease .seq := by
  rcases h with h | h <;> simp only [Node.seqStop, h, Node.halted]

/-- R15: a lease dropped. -/
theorem dropLease_eq (n : Node) : n.dropLease = n.withCu {
    st := (match n.cu.st with
      | .converting _ => .recovering (n.now + 10)
      | x => x)
    holder := none
    waiting := n.cu.waiting
    request := none
    injection := .off
    heldInjection := none
    trim := n.cu.trim } := by
  unfold Node.dropLease
  cases n.cu.st <;> rfl

theorem leaseRelease_of_holder {n : Node} {c : Client} (h : n.cu.holder = some c) :
    n.leaseRelease c = n.dropLease.grantWaiting := by
  rw [Node.leaseRelease, if_pos h]

theorem leaseRelease_of_ne {n : Node} {c : Client} (h : n.cu.holder ≠ some c) : n.leaseRelease c = n := by
  rw [Node.leaseRelease, if_neg h]

/-- Settles O21: SCAN_STOP, by the state of the sequencer. -/
theorem scanStopStopsTheSequencer : Obligations.ScanStopStopsTheSequencer := by
  intro s f rest ht hk hl m quiet
  have hexec : exec .scanStop s = s.ends ((s.left rest).seqStop.answer f .ok []) :=
    State.onNode_command_of_takes ht (isKind_of_kind hk) (by simp [lengthIs, hl]) _
  rw [hexec]
  refine ⟨fun hst => ?_, fun hst => ?_, fun hst => ?_, fun hst => ⟨fun hno => ?_, fun hheld => ?_⟩⟩
  · rw [seqStop_of_stopped (n := s.left rest) hst]
  · rw [seqStop_of_gap (n := s.left rest) hst]
    rfl
  · rw [seqStop_of_waiting (n := s.left rest) hst, Node.leaseWithdraw, ne_filter_eq]
    rfl
  · rw [seqStop_of_quiet (n := s.left rest) hst, leaseRelease_of_ne (by exact hno)]
    rfl
  · rw [seqStop_of_quiet (n := s.left rest) hst, leaseRelease_of_holder (by exact hheld), dropLease_eq]
    rfl

/-- R38: the bytes of SCAN_STATUS. -/
theorem statusBytes_eq (q : Sequencer) : q.statusBytes = put1 q.st.code
    ++ [match q.active with
        | none => (0xFF : Byte)
        | some p => BitVec.ofNat 8 p.mode.code]
    ++ [q.epoch] ++ put2 q.passCounter
    ++ [BitVec.ofNat 8 (q.passDone.toNat + 2 * q.staged.isSome.toNat)] ++ put2 q.late
    ++ put1 (q.stepIndex.getD 0) := by
  have hmode : put1 (q.active.elim 0xFF fun p => (p.mode.code : Int)) = [match q.active with
      | none => (0xFF : Byte)
      | some p => BitVec.ofNat 8 p.mode.code] := by
    cases q.active with
    | none => rfl
    | some p => exact put1_natCast _
  rw [Sequencer.statusBytes, hmode, put1_toNat, limitFlags_eq]

/-- Settles O22: SCAN_STATUS, by its options byte. -/
theorem scanStatusReportsAndTakes : Obligations.ScanStatusReportsAndTakes := by
  intro s f rest tag o ht hk hp
  have hexec : exec .scanStatus s = s.ends ((s.left rest).judgeScanStatus f) :=
    State.onNode_command_of_takes ht (isKind_of_kind hk) (by simp [lengthIs, hp]) _
  have hjudge : (s.left rest).judgeScanStatus f = if o.toNat < 2 then
        (if o.getLsbD 0 then ((s.left rest).answer f .ok s.seq.statusBytes).withSeq { s.seq with passDone := false }
          else (s.left rest).answer f .ok s.seq.statusBytes)
      else (s.left rest).answer f .invalid [] := by
    have hseq : ((s.left rest).answer f .ok s.seq.statusBytes).seq = s.seq := by simp
    simp only [Node.judgeScanStatus, Frame.body, hp, List.tail_cons, List.headD_cons, onlyBitsBelow, Node.left_seq, hseq,
      decide_eq_true_eq, Nat.pow_one]
  rw [hexec, hjudge, statusBytes_eq]
  refine ⟨fun ho => ?_, fun ho => ?_, fun ho => ?_⟩
  · subst ho
    rfl
  · subst ho
    rfl
  · rw [if_neg (by omega)]

end Sys2Proof.Machine
end

section
/-! SUPPORT. READ_RESULTS and READ_REPORT (R48 to R52): the bytes of a reply record and the records of a list. -/

namespace Sys2Proof.Machine

/-- R185: the flags of a reply record. -/
theorem recordFlags_eq (fresh watch spread extrema : Bool) :
    flagBit 0 true ||| flagBit 1 fresh ||| flagBit 2 watch ||| flagBit 3 spread ||| flagBit 4 extrema
      = BitVec.ofNat 8 (1 + 2 * fresh.toNat + 4 * watch.toNat + 8 * spread.toNat + 16 * extrema.toNat) := by
  revert fresh watch spread extrema
  decide

/-- R49, R185: a reply record is its report. -/
theorem replyRecord_eq (detail : Bool) (src : Nat) (w : Option Written) :
    replyRecord detail src w = recordReport detail src w := by
  cases w with
  | none => cases detail <;> rfl
  | some w =>
    have hextrema : (match w.extrema with
        | none => put2 0 ++ put2 0
        | some x => put2 x.least ++ put2 x.greatest)
        = put2 (w.extrema.elim 0 fun x => x.least) ++ put2 (w.extrema.elim 0 fun x => x.greatest) := by
      cases w.extrema <;> rfl
    have hwatch : (w.origin == .watch) = decide (w.origin = .watch) := beq_eq_decide _ _
    simp only [replyRecord, recordReport, recordFlags_eq, hwatch, put1_toNat, List.append_assoc]
    cases detail
    · rfl
    · cases w.extrema <;> rfl

/-- R183: the detail flag of an options byte of the list. -/
theorem detail_eq (o : Byte) (h : o.toNat ≤ 1) : o.getLsbD 0 = decide (o = 1) := by
  revert o
  decide

theorem recordLimit_eq (o : Byte) : recordLimit (decide (o = 1)) = if o = 1 then 6 else 11 := by
  by_cases h : o = 1 <;> simp [recordLimit, h]

/-- R49: the records of a list of codes. -/
theorem replyRecords_eq (n : Node) (o : Byte) (codes : List Nat) : n.replyRecords (decide (o = 1)) codes
    = (codes.take (if o = 1 then 6 else 11)).flatMap fun c => recordReport (decide (o = 1)) c (findRecord n.rt c) := by
  simp only [Node.replyRecords, recordLimit_eq, replyRecord_eq]

/-- R48, R49: READ_RESULTS judged, by its options byte and codes. -/
theorem judgeReadResults_eq {n : Node} {f : Frame} {tag o : Byte} {codes : List Byte} (hp : f.payload = tag :: o :: codes) :
    n.judgeReadResults f = if o.toNat ≤ 1 ∧ ∀ c ∈ codes, 1 ≤ c.toNat ∧ c.toNat ≤ 21 then
        n.answer f .ok (put1 codes.length ++ put1 (returned (o.getLsbD 0) (codes.map fun b => b.toNat))
          ++ n.replyRecords (o.getLsbD 0) (codes.map fun b => b.toNat))
      else n.answer f .invalid [] := by
  have hgood : (onlyBitsBelow 1 o && (codes.map fun b => b.toNat).all isSource) = true
      ↔ o.toNat ≤ 1 ∧ ∀ c ∈ codes, 1 ≤ c.toNat ∧ c.toNat ≤ 21 := by
    simp [onlyBitsBelow, isSource_iff]
  simp only [Node.judgeReadResults, Frame.body, hp, List.tail_cons, hgood, List.length_map]

/-- R52: READ_REPORT judged, by its list, options byte and start. -/
theorem judgeReadReport_eq {n : Node} {f : Frame} {tag j o start : Byte}
    (hp : (f.payload = [tag, j, o] ∧ start = 0) ∨ f.payload = [tag, j, o, start]) :
    n.judgeReadReport f = if o.toNat ≤ 1 ∧ j.toNat ≤ 3 ∧ start.toNat ≤ 20 then
        n.answer f .ok (n.reportData j.toNat start.toNat (o.getLsbD 0))
      else n.answer f .invalid [] := by
  have hgood : (onlyBitsBelow 1 o && decide (j.toNat ≤ 3) && decide (start.toNat ≤ 20)) = true
      ↔ o.toNat ≤ 1 ∧ j.toNat ≤ 3 ∧ start.toNat ≤ 20 := by
    simp [onlyBitsBelow, and_assoc]
  rcases hp with ⟨hp, hstart⟩ | hp
  · subst hstart
    simp only [Node.judgeReadReport, Frame.body, hp, List.tail_cons, List.headD_nil]
    exact if_congr hgood rfl rfl
  · simp only [Node.judgeReadReport, Frame.body, hp, List.tail_cons, List.headD_cons]
    exact if_congr hgood rfl rfl

/-- Settles O23: READ_RESULTS and READ_REPORT answer or refuse. -/
theorem readsReportTheRecords : Obligations.ReadsReportTheRecords := by
  intro s f rest tag o j start codes ht most records report
  refine ⟨fun hk hp hlow hhigh => ?results, fun hk hp => ?report⟩
  case results =>
    have hexec : exec .readResults s = s.ends ((s.left rest).judgeReadResults f) :=
      State.onNode_command_of_takes ht (isKind_of_kind hk)
        (by simp only [resultsLength, hp, List.length_cons, Bool.and_eq_true, decide_eq_true_eq]; omega) _
    rw [hexec, judgeReadResults_eq hp]
    refine ⟨fun ho hcodes => ?_, fun hbad => ?_⟩
    · rw [if_pos ⟨ho, hcodes⟩, detail_eq o ho, replyRecords_eq, returned, recordLimit_eq, List.length_map, Nat.min_comm,
        Nat.cast_min]
      rfl
    · rw [if_neg]
      rintro ⟨ho, hcodes⟩
      rcases hbad with hbad | ⟨c, hc, hout⟩
      · omega
      · have := hcodes c hc
        omega
  case report =>
    have hexec : exec .readReport s = s.ends ((s.left rest).judgeReadReport f) :=
      State.onNode_command_of_takes ht (isKind_of_kind hk)
        (by rcases hp with ⟨hp, -⟩ | hp <;> simp [lengthIs, hp]) _
    rw [hexec, judgeReadReport_eq hp]
    refine ⟨fun ho hj hstart => ?_, fun hbad => ?_⟩
    · rw [if_pos ⟨ho, hj, hstart⟩, detail_eq o ho, Node.reportData]
      simp only [replyRecords_eq, returned, recordLimit_eq, List.length_drop, Nat.min_comm]
      rfl
    · rw [if_neg (by omega)]

end Sys2Proof.Machine
end

section
/-! SUPPORT. EQ_SET (R108, R109): the entries of the frame, when they are taken, and what staging them leaves. -/

namespace Sys2Proof.Machine

/-- The entry of EQ_SET with the three fields. -/
def eqEntryOf (e : Nat × Nat × Nat) : EqEntry := { channel := e.1, duty := e.2.1, budget := e.2.2 }

/-- R184: the entries of an EQ_SET. -/
theorem readEqEntries_eq : ∀ l : List Byte, readEqEntries l = (setEntries l).map eqEntryOf
  | [] => rfl
  | [_] => rfl
  | [_, _] => rfl
  | [_, _, _] => rfl
  | [_, _, _, _] => rfl
  | c :: d :: b2 :: b1 :: b0 :: l => by
    rw [readEqEntries, setEntries, List.map_cons, readEqEntries_eq l]
    rfl

/-- R108: no two entries name one channel. -/
theorem distinctChannels_iff (l : List EqEntry) : distinctChannels l = true ↔ (l.map EqEntry.channel).Nodup := by
  induction l with
  | nil => simp [distinctChannels]
  | cons e l ih => simp [distinctChannels, ih]

/-- R108: when one entry is taken. -/
theorem eqEntry_allowed_iff (e : EqEntry) (n : Nat) : e.allowed n = true ↔
    1 ≤ e.channel ∧ e.channel ≤ 14 ∧ e.channel ≤ n ∧ e.duty ≤ 32 ∧ e.budget ≤ 16777215 := by
  simp only [EqEntry.allowed, Bool.and_eq_true, decide_eq_true_eq, and_assoc]
  exact Iff.rfl

/-- R108: when the entries are taken. -/
theorem eqEntries_good_iff (l : List (Nat × Nat × Nat)) (n : Nat) :
    (((l.map eqEntryOf).all fun e => e.allowed n) && distinctChannels (l.map eqEntryOf)) = true
      ↔ (∀ e ∈ l, 1 ≤ e.1 ∧ e.1 ≤ 14 ∧ e.1 ≤ n ∧ e.2.1 ≤ 32 ∧ e.2.2 ≤ 16777215) ∧ (l.map fun e => e.1).Nodup := by
  have hchannels : (l.map eqEntryOf).map EqEntry.channel = l.map fun e => e.1 := by
    rw [List.map_map]
    rfl
  rw [Bool.and_eq_true, distinctChannels_iff, hchannels, List.all_map, List.all_eq_true]
  exact and_congr_left' (forall₂_congr fun e _ => eqEntry_allowed_iff (eqEntryOf e) n)

/-- R109: the Equalizer with the entries staged. -/
theorem stage_eq (e : Equalizer) (l : List (Nat × Nat × Nat)) : e.stage (l.map eqEntryOf) = { e with
    channels := e.channels.map fun c =>
      match (l.find? fun x => x.1 == c.num) with
      | none => c
      | some x => { c with staged := some { duty := x.2.1, budget := x.2.2 } } } := by
  unfold Equalizer.stage Equalizer.mapChannels
  congr 1
  refine List.map_congr_left fun c _ => ?_
  have hfind : (l.map eqEntryOf).find? (fun d => d.channel == c.num)
      = (l.find? fun x => x.1 == c.num).map eqEntryOf := List.find?_map
  rw [hfind]
  cases l.find? fun x => x.1 == c.num <;> rfl

/-- Settles O27: the entries are all taken or refused together. -/
theorem eqSetStagesValues : Obligations.EqSetStagesValues := by
  intro s f rest tag body ht hk hp hlen l good
  have hfits : eqSetLength f.payload = true := by
    obtain ⟨k, hkmem, hkeq⟩ := List.mem_map.mp hlen
    have hk14 := List.mem_range'_1.mp hkmem
    simp only [eqSetLength, hp, List.length_cons, Bool.and_eq_true, decide_eq_true_eq, beq_iff_eq]
    omega
  have hexec : exec .eqSet s = s.ends ((s.left rest).judgeEqSet f) :=
    State.onNode_command_of_takes ht (isKind_of_kind hk) hfits _
  have hentries : readEqEntries f.body = l.map eqEntryOf := by
    rw [Frame.body, hp, List.tail_cons, readEqEntries_eq]
  rw [hexec]
  simp only [Node.judgeEqSet, hentries, eqEntries_good_iff, stage_eq, Node.left_cfg]
  refine ⟨fun hgood => ?_, fun hbad => ?_⟩
  · rw [if_pos hgood]
    rfl
  · rw [if_neg hbad]

end Sys2Proof.Machine
end

section
/-! SUPPORT. EQ_READ (R119 to R121): the page, the done mask and the bytes of a channel record. -/

namespace Sys2Proof.Machine

/-- R99: channel records in order from channel `k` on: those from channel `first` on are the rest of the list. -/
theorem filter_num_eq_drop : ∀ {l : List Channel} {k len : Nat}, l.map Channel.num = List.range' k len → ∀ {first : Nat},
    k ≤ first → (l.filter fun c => decide (first ≤ c.num)) = l.drop (first - k)
  | [], _, _, _, _, _ => by simp
  | c :: l, k, 0, h, _, _ => by simp at h
  | c :: l, k, len + 1, h, first, hk => by
    simp only [List.map_cons, List.range'_succ, List.cons.injEq] at h
    obtain ⟨hnum, hrest⟩ := h
    rcases Nat.lt_or_ge k first with hlt | hge
    · rw [List.filter_cons_of_neg (by simp; omega), filter_num_eq_drop hrest hlt, show first - k = first - (k + 1) + 1 by omega,
        List.drop_succ_cons]
    · have hall : ∀ d ∈ c :: l, decide (first ≤ d.num) = true := fun d hd => by
        rw [decide_eq_true_eq]
        rcases List.mem_cons.mp hd with rfl | hd
        · omega
        · have hmem : d.num ∈ List.range' (k + 1) len := hrest ▸ List.mem_map_of_mem hd
          have := List.mem_range'_1.mp hmem
          omega
      rw [List.filter_eq_self.mpr hall, show first - k = 0 by omega, List.drop_zero]

/-- R120: the page from channel `first` on. -/
theorem page_eq {n : Node} (hlaw : n.ChannelLaw) {first : Nat} (h : 1 ≤ first) :
    n.eq.page first = (n.eq.channels.drop (first - 1)).take 6 := by
  rw [Equalizer.page, filter_num_eq_drop (len := 14) (k := 1) hlaw h]

/-- R120: the number of records returned. -/
theorem page_length {n : Node} (hlaw : n.ChannelLaw) {first : Nat} (h : 1 ≤ first) (hhigh : first ≤ 14) :
    (n.eq.page first).length = min 6 (15 - first) := by
  have hlen : n.eq.channels.length = 14 := by
    rw [← List.length_map Channel.num, hlaw]
    rfl
  rw [page_eq hlaw h, List.length_take, List.length_drop, hlen]
  omega

/-- R121: the done mask as a sum. -/
theorem doneMask_eq (e : Equalizer) :
    e.doneMask = (e.channels.map fun c => if c.done = true then 2 ^ (c.num - 1) else 0).sum := by
  have hfold : ∀ (l : List Channel) (a : Nat), l.foldl (fun m c => if c.done then m + 2 ^ (c.num - 1) else m) a
      = a + (l.map fun c => if c.done = true then 2 ^ (c.num - 1) else 0).sum := fun l => by
    induction l with
    | nil => simp
    | cons c l ih =>
      intro a
      rw [List.foldl_cons, ih, List.map_cons, List.sum_cons]
      by_cases hdone : c.done = true <;> simp [hdone, Nat.add_assoc]
  rw [Equalizer.doneMask, hfold, Nat.zero_add]

/-- R119, R185: a channel record is its report. -/
theorem Channel.bytes_eq (n : Node) (c : Channel) : c.bytes (n.channelStatus c) = channelReport n c := by
  unfold Channel.bytes channelReport Node.channelStatus
  cases c.staged <;> simp

/-- R120: the data of the reply. -/
theorem eqReadData_eq {n : Node} (hlaw : n.ChannelLaw) {b : Byte} (hlow : 1 ≤ b.toNat) (hhigh : b.toNat ≤ 14) :
    n.eqReadData b.toNat = put1 n.eq.st.code ++ put2 n.eq.frameMs ++ put1 n.eq.slot
      ++ put2 ((n.eq.channels.map fun c => if c.done = true then 2 ^ (c.num - 1) else 0).sum : Nat)
      ++ [b] ++ put1 (min 6 (15 - b.toNat) : Nat)
      ++ ((n.eq.channels.drop (b.toNat - 1)).take 6).flatMap (channelReport n) := by
  have hbytes : (fun c : Channel => c.bytes (n.channelStatus c)) = channelReport n := funext fun c => c.bytes_eq n
  rw [Node.eqReadData, page_length hlaw hlow hhigh, page_eq hlaw hlow, doneMask_eq, put1_toNat, hbytes]

/-- R120: EQ_READ judged, by its first channel. -/
theorem judgeEqRead_eq {n : Node} {f : Frame} {tag b : Byte} (hp : f.payload = [tag, b]) :
    n.judgeEqRead f = if 1 ≤ b.toNat ∧ b.toNat ≤ 14
      then (n.answer f .ok (n.eqReadData b.toNat)).withEq n.eq.emptyDone else n.answer f .invalid [] := by
  have heq : ∀ data, (n.answer f .ok data).eq = n.eq := by simp
  simp only [Node.judgeEqRead, Frame.body, hp, List.tail_cons, List.headD_cons, heq]

/-- Settles O29: the first channel is one of the fourteen or not. -/
theorem eqReadReportsAndEmptiesTheMask : Obligations.EqReadReportsAndEmptiesTheMask := by
  intro s f rest tag b hlaw ht hk hp page
  have hexec : exec .eqRead s = s.ends ((s.left rest).judgeEqRead f) :=
    State.onNode_command_of_takes ht (isKind_of_kind hk) (by simp [lengthIs, hp]) _
  rw [hexec, judgeEqRead_eq hp]
  refine ⟨fun hlow hhigh => ?_, fun hout => by rw [if_neg (by omega)]⟩
  rw [if_pos ⟨hlow, hhigh⟩, eqReadData_eq (n := s.left rest) hlaw hlow hhigh, Nat.cast_min, Nat.cast_sub (by omega)]
  rfl

end Sys2Proof.Machine
end

section
/-! SUPPORT. TRIM, LINE_CHECK and MAINT_ABORT (R140, R153, R154). -/

namespace Sys2Proof.Machine

/-- R140: the Maintenance Unit is free. -/
theorem maintBusy_iff (n : Node) :
    n.maintBusy = true ↔ ¬(n.mu.st = .idle ∧ (n.seq.st = .stopped ∨ n.seq.st = .passGap)) := by
  simp only [Node.maintBusy, MaintenanceUnit.inFlight, Bool.or_eq_true, bne_iff_ne, Bool.not_eq_true', Bool.or_eq_false_iff,
    beq_eq_false_iff_ne]
  tauto

/-- R183: the ranges of a mask below 8. -/
theorem readRangeMask_eq (b : Byte) (h : b.toNat < 8) : readRangeMask b = {
    cell := decide (b.toNat % 2 = 1)
    aux := decide (b.toNat / 2 % 2 = 1)
    stack := decide (b.toNat / 4 = 1) } := by
  revert b
  decide

theorem rangeMaskValid_iff (b : Byte) : rangeMaskValid b = true ↔ b ≠ 0 ∧ b.toNat < 8 := by
  have hzero : b.toNat ≠ 0 ↔ b ≠ 0 := by
    rw [ne_eq, ne_eq, not_iff_not]
    exact ⟨fun h => BitVec.eq_of_toNat_eq h, fun h => by simp [h]⟩
  rw [rangeMaskValid, Bool.and_eq_true, decide_eq_true_eq, decide_eq_true_eq, hzero]

/-- R140: TRIM judged, by its mask. -/
theorem judgeTrim_eq {n : Node} {f : Frame} {tag mask : Byte} (hp : f.payload = [tag, mask]) :
    n.judgeTrim f = if !rangeMaskValid mask then n.answer f .invalid []
      else if n.maintBusy then n.answer f .busy []
      else n.acceptOperation f (.trim (TrimOp.initial (readRangeMask mask))) := by
  simp only [Node.judgeTrim, Frame.body, hp, List.tail_cons, List.headD_cons]

/-- R141: an operation accepted. -/
theorem acceptOperation_eq {n : Node} {f : Frame} {tag : Byte} (htag : f.tag = tag) (b : OpBody) :
    n.acceptOperation f b = (n.withMu {
      st := .leaseWait
      op := some { tag := tag, broadcast := decide (f.address = 63), body := b } }).leaseRequest .mu := by
  have hbroadcast : f.isBroadcast = decide (f.address = 63) := beq_eq_decide _ _
  rw [Node.acceptOperation, htag, hbroadcast]

/-- Settles O30: the mask is valid or not, the Maintenance Unit busy or free. -/
theorem maintenanceIsAcceptedOrRefused : Obligations.MaintenanceIsAcceptedOrRefused := by
  intro s f rest tag mask ht free started
  have hbusy : (s.left rest).maintBusy = true ↔ ¬free := maintBusy_iff _
  refine ⟨fun hk hp => ?trim, fun hk hp => ?line⟩
  case trim =>
    have hexec : exec .trim s = s.ends ((s.left rest).judgeTrim f) :=
      State.onNode_command_of_takes ht (isKind_of_kind hk) (by simp [lengthIs, hp]) _
    have htag : f.tag = tag := by simp [Frame.tag, hp]
    have hvalid : mask ≠ 0 → mask.toNat < 8 → ¬(!rangeMaskValid mask) = true := fun hne hlt => by
      simp [(rangeMaskValid_iff mask).mpr ⟨hne, hlt⟩]
    rw [hexec, judgeTrim_eq hp]
    refine ⟨fun hbad => ?_, fun hne hlt hno => ?_, fun hne hlt hfree => ?_⟩
    · have hinvalid : ¬rangeMaskValid mask = true := fun h => by
        obtain ⟨hne, hlt⟩ := (rangeMaskValid_iff mask).mp h
        exact hbad.elim hne (fun h => by omega)
      rw [if_pos (by simpa using hinvalid)]
    · rw [if_neg (hvalid hne hlt), if_pos (hbusy.mpr hno)]
    · rw [if_neg (hvalid hne hlt), if_neg (fun h => hbusy.mp h hfree), acceptOperation_eq htag, TrimOp.initial,
        readRangeMask_eq mask hlt]
  case line =>
    have hexec : exec .lineCheck s = s.ends ((s.left rest).judgeLineCheck f) :=
      State.onNode_command_of_takes ht (isKind_of_kind hk) (by simp [lengthIs, hp]) _
    have htag : f.tag = tag := by simp [Frame.tag, hp]
    rw [hexec, Node.judgeLineCheck]
    refine ⟨fun hno => ?_, fun hfree => ?_⟩
    · rw [if_pos (hbusy.mpr hno)]
    · rw [if_neg (fun h => hbusy.mp h hfree), acceptOperation_eq htag]
      rfl

/-- R185: the mask of the committed ranges. -/
theorem committedFlags_eq (cell aux stack : Bool) : flagBit 0 cell ||| flagBit 1 aux ||| flagBit 2 stack
    = BitVec.ofNat 8 (cell.toNat + 2 * aux.toNat + 4 * stack.toNat) := by
  revert cell aux stack
  decide

theorem codeByte_eq (c : Option TrimCode) : codeByte c = c.elim 0 fun c => c.signExtend 8 := by
  cases c <;> rfl

/-- R185: the data of a TRIM reply. -/
theorem Committed.bytes_eq (c : Committed) : c.bytes
    = [BitVec.ofNat 8 (c.cell.isSome.toNat + 2 * c.aux.isSome.toNat + 4 * c.stack.isSome.toNat),
        c.cell.elim 0 fun c => c.signExtend 8, c.aux.elim 0 fun c => c.signExtend 8,
        c.stack.elim 0 fun c => c.signExtend 8] := by
  rw [Committed.bytes, committedFlags_eq, codeByte_eq, codeByte_eq, codeByte_eq]

/-- R153: the node once an operation's quiet request and lease are released. -/
def Node.operationLeft (n : Node) : Node := (n.quietRelease .mu).leaseRelease .mu

/-- R153: the end of an operation. -/
theorem endOperation_eq {n : Node} {o : Operation} (ho : n.mu.op = some o) (kind : Byte) (st : Status)
    (data : List Byte) : n.endOperation kind st data
      = ((if o.broadcast then n.operationLeft
          else n.operationLeft.completionReply .maintenance {
            address := BitVec.ofNat 8 n.li.address, kind := replyKind kind, payload := o.tag :: st.code :: data }).withMu
          { st := .idle, op := none }).startDeferred := by
  have hli : n.operationLeft.li = n.li := by simp [Node.operationLeft]
  have horigin : n.operationLeft.origin = BitVec.ofNat 8 n.li.address := by rw [Node.origin, hli]
  unfold Node.endOperation
  simp only [ho, Node.replyFrame]
  rw [← horigin]
  rfl

/-- Settles O31: MAINT_ABORT finds an operation or none. -/
theorem maintAbortEndsTheOperation : Obligations.MaintAbortEndsTheOperation := by
  intro s f rest ht hk hl
  have hexec : exec .maintAbort s = s.ends ((s.left rest).judgeMaintAbort f) :=
    State.onNode_command_of_takes ht (isKind_of_kind hk) (by simp [lengthIs, hl]) _
  rw [hexec, Node.judgeMaintAbort]
  refine ⟨fun hnone => ?_, fun o ho => ?_⟩
  · simp only [Node.left_mu, hnone]
  · intro code reply m
    have hop : (((s.left rest).answer f .ok []).leaseWithdraw .mu).mu.op = some o := by simpa [Node.leaseWithdraw] using ho
    have hli : (((s.left rest).answer f .ok []).leaseWithdraw .mu).li = s.li := by simp [Node.leaseWithdraw]
    have hm : (((s.left rest).answer f .ok []).leaseWithdraw .mu).operationLeft = m := by
      have hcu : ((s.left rest).answer f .ok []).cu = s.cu := by simp
      have heq : (((s.left rest).answer f .ok []).leaseWithdraw .mu).eq = s.eq := by simp [Node.leaseWithdraw]
      rw [Node.operationLeft, Node.quietRelease, heq, Node.leaseWithdraw, ne_filter_eq, hcu]
      rfl
    simp only [Node.left_mu, Option.mem_def.mp ho, Node.abortOperation]
    cases hbody : o.body with
    | trim t =>
      simp only [endOperation_eq hop, hli, hm, Committed.bytes_eq, reply, hbody]
      rfl
    | line l =>
      simp only [endOperation_eq hop, hli, hm, reply, hbody]
      rfl

end Sys2Proof.Machine
end

section
/-! SUPPORT. STANDBY and the frame wake (R192, R193): the node asleep and the Equalizer it wakes with. -/

namespace Sys2Proof.Machine

/-- R122: a cut of every switch, channel by channel. -/
theorem cutAll_eq (e : Equalizer) (t : Nat) : e.cutAll t = { e with channels := e.channels.map fun c => { c with
    closed := false
    openSince := if c.closed = true then t else c.openSince
    kept := false } } := by
  have hcut : Channel.cut t = fun c : Channel => { c with
      closed := false
      openSince := if c.closed = true then t else c.openSince
      kept := false } := funext fun c => c.cut_eq t
  rw [Equalizer.cutAll, Equalizer.mapChannels, hcut]

/-- R192: the node asleep, block by block. -/
theorem asleep_blocks (n : Node) : n.asleep = (((n.seqStop.withEq { n.seqStop.eq with
      st := .disabled
      slotEnd := none
      preStandby := some n.seqStop.eq.st
      channels := n.seqStop.eq.channels.map fun c => { c with
        closed := false
        openSince := if c.closed = true then n.now else c.openSince
        kept := false } }).withCu {
      st := .off, holder := none, waiting := [], request := none, injection := .off, heldInjection := none
      trim := n.seqStop.cu.trim }).withLi { n.seqStop.li with silence := none }).withPc { n.seqStop.pc with
      power := .standby
      watchTimer := if n.cfg.watchInterval = 0 then none else some (n.now + n.cfg.watchInterval * 1000000) } := by
  have hnow : n.seqStop.now = n.now := by simp
  have hcfg : n.seqStop.cfg = n.cfg := by simp
  rw [← hnow, ← hcfg]
  simp only [Node.asleep, Node.eqDisable, cutAll_eq]
  rfl

/-- R110, R123: a channel with its staged values applied at a wake. -/
theorem applyStaged_woken (c : Channel) : { c.applyStaged with kept := false } = c.woken := by
  cases hst : c.staged <;> simp [Channel.applyStaged, Channel.woken, hst]

theorem frameTaken_woken (e : Equalizer) (k : Nat) : (e.frameTaken k).channels = e.channels.map Channel.woken := by
  rw [Equalizer.frameTaken_channels]
  exact List.map_congr_left fun c _ => applyStaged_woken c

/-- R100: slot 0 lies in the window of an odd channel with a duty. -/
theorem inWindow_zero (num duty : Nat) : inWindow num duty 0 = true ↔ num % 2 = 1 ∧ 0 < duty := by
  unfold inWindow
  split
  · rename_i h
    simp [h]
  · rename_i h
    simp [h]

/-- R123, R102: when the switch of a channel may close in the slot 0 that a restart begins. -/
theorem mayClose_woken_iff (n : Node) (c : Channel) : n.mayClose 0 c.woken = true ↔ n.eq.st = .running ∧ c.num % 2 = 1
    ∧ 0 < c.staged.elim c.duty (fun v => v.duty) ∧ 0 < c.staged.elim c.budget (fun v => v.budget)
    ∧ n.eq.quiet.holds c.num = false ∧ n.inhibited c.num = false := by
  rw [Node.mayClose_iff, inWindow_zero, and_assoc]
  exact Iff.rfl

/-- R97, R102: the channels after a restart at slot 0. -/
theorem restartFrame_channels (n : Node) (st : Equalizer → EqState) : (n.restartFrame st).eq.channels
    = n.eq.channels.map fun c => if (n.restartFrame st).eq.st = .running ∧ c.num % 2 = 1
          ∧ 0 < c.staged.elim c.duty (fun v => v.duty) ∧ 0 < c.staged.elim c.budget (fun v => v.budget)
          ∧ n.eq.quiet.holds c.num = false ∧ n.inhibited c.num = false
        then { c.woken with closed := true } else c.woken := by
  have hstate : (n.restartFrame st).eq.st = st (n.eq.frameTaken n.cfg.eqFrame) := by
    rw [Node.restartFrame_eq]
    rfl
  rw [hstate, Node.restartFrame_eq]
  simp only [Equalizer.closing, Equalizer.mapChannels_channels, frameTaken_woken, List.map_map]
  refine List.map_congr_left fun c _ => ?_
  exact if_congr (mayClose_woken_iff (n.withEq { n.eq with st := st (n.eq.frameTaken n.cfg.eqFrame) }) c) rfl rfl

/-- R123: the state a frame wake takes the Equalizer to. -/
theorem wakeState_false (pre : Option EqState) (e : Equalizer) (k : Nat) : Node.wakeState false pre (e.frameTaken k)
    = if pre = some .safeStop then .safeStop
      else if ∃ c ∈ e.channels, 0 < (c.staged.elim c.budget fun v => v.budget) then .running else .idle := by
  have howes : (e.frameTaken k).owes = true ↔ ∃ c ∈ e.channels, 0 < (c.staged.elim c.budget fun v => v.budget) := by
    rw [Equalizer.owes_iff, frameTaken_woken]
    simp only [List.mem_map, exists_exists_and_eq_and]
    exact Iff.rfl
  simp only [Node.wakeState, Bool.false_or, beq_iff_eq, howes]

/-- R193: the node a frame wakes, ACTIVE and its converter powering up, before the Equalizer leaves DISABLED. -/
def Node.risen (n : Node) : Node := (n.withPc { n.pc with power := .active, watchTimer := none }).powerUp

theorem frameWake_risen (n : Node) : n.frameWake = (n.risen.eqWake false).silenceRestart := rfl

/-- R4: a power-up order. -/
theorem powerUp_eq (n : Node) :
    n.powerUp = n.withCu { n.cu with st := if n.cu.st = .off then .powering (n.now + 200) else n.cu.st } := by
  unfold Node.powerUp
  split
  · rfl
  · rfl

/-- Settles O32: the node falls asleep or refuses to; a frame wake, block by block. -/
theorem standbyPutsTheNodeToSleep : Obligations.StandbyPutsTheNodeToSleep := by
  refine ⟨fun s f rest ht hk hl => ?standby, fun n hst => ?wake⟩
  case standby =>
    have hexec : exec .standby s = s.ends ((s.left rest).judgeStandby f) :=
      State.onNode_command_of_takes ht (isKind_of_kind hk) (by simp [lengthIs, hl]) _
    rw [hexec, Node.judgeStandby]
    refine ⟨fun hbusy => ?_, fun hmu hw => ?_⟩
    · have hbusy' : ((s.left rest).mu.inFlight || (s.left rest).pc.watchPass.isSome) = true := by
        simpa [MaintenanceUnit.inFlight, Option.isSome_iff_ne_none] using hbusy
      rw [if_pos hbusy']
    · intro m asleep
      have hasleep : ((s.left rest).answer f .ok []).asleep = asleep := by
        have hnow : ((s.left rest).answer f .ok []).now = s.now := by simp
        have hcfg : ((s.left rest).answer f .ok []).cfg = s.cfg := by simp
        rw [asleep_blocks, hnow, hcfg]
      have hqueue : asleep.ch.cmdQueue = rest := by
        have hanswer : ((s.left rest).answer f .ok []).ch.cmdQueue = rest := by
          unfold Node.answer
          split <;> rfl
        rw [← hasleep]
        simpa [Node.asleep] using hanswer
      have hidle : ¬((s.left rest).mu.inFlight || (s.left rest).pc.watchPass.isSome) = true := by
        simp [MaintenanceUnit.inFlight, hmu, hw]
      rw [if_neg hidle, Node.enterStandby_eq, hasleep, hqueue]
      cases rest <;> rfl
  case wake =>
    have hrisen : n.risen.eq = n.eq := by simp [Node.risen]
    have hwoken : n.frameWake.eq
        = { (n.risen.restartFrame (Node.wakeState false n.eq.preStandby)).eq with preStandby := none } := by
      have h := Node.eqWake_eq (n := n.risen) (by rw [hrisen, hst]) false
      rw [hrisen] at h
      rw [frameWake_risen, ← h]
      simp
    have hcfg : n.risen.cfg = n.cfg := by simp [Node.risen]
    have hnow : n.risen.now = n.now := by simp [Node.risen]
    have hstate : (n.risen.restartFrame (Node.wakeState false n.eq.preStandby)).eq.st
        = Node.wakeState false n.eq.preStandby (n.eq.frameTaken n.cfg.eqFrame) := by
      rw [Node.restartFrame_eq, hrisen, hcfg]
      rfl
    have hinhibited : ∀ k, n.risen.inhibited k = n.inhibited k := fun k =>
      Node.inhibited_congr (by simp [Node.risen]) (by simp [Node.risen]) (by simp [Node.risen]) k
    have hsilence : n.frameWake = (n.risen.eqWake false).silenceStarted n.cfg.silenceTimeout := by
      simp only [frameWake_risen, silenceRestart_eq, Node.eqWake_frame, hcfg]
    have hpc : n.frameWake.pc = { n.pc with power := .active, watchTimer := none } := by
      simp [hsilence, Node.silenceStarted, Node.risen]
    have hcu : n.frameWake.cu = { n.cu with st := if n.cu.st = .off then .powering (n.now + 200) else n.cu.st } := by
      have hpower : n.frameWake.cu = (n.withPc { n.pc with power := .active, watchTimer := none }).powerUp.cu := by
        simp [hsilence, Node.silenceStarted, Node.risen]
      exact hpower.trans (congrArg Node.cu (powerUp_eq _))
    have hli : n.frameWake.li = { n.li with
        silence := if n.cfg.silenceTimeout = 0 then none else some (n.now + n.cfg.silenceTimeout * 250000) } := by
      simp [hsilence, Node.silenceStarted, Node.risen]
    have hft : n.frameWake.ft = { n.ft with entries := n.ft.entries.map fun e =>
        if e.kind = .linkSilent ∧ e.source = 0 then { e with active := false } else e } := by
      simp [hsilence, Node.silenceStarted, Node.risen]
    have hchannels : n.frameWake.eq.channels = n.eq.channels.map fun c =>
        if n.frameWake.eq.st = .running ∧ c.num % 2 = 1 ∧ 0 < c.staged.elim c.duty (fun v => v.duty)
            ∧ 0 < c.staged.elim c.budget (fun v => v.budget) ∧ n.eq.quiet.holds c.num = false
            ∧ n.inhibited c.num = false
        then { c.woken with closed := true } else c.woken := by
      rw [hwoken]
      simp only [restartFrame_channels, hrisen, hinhibited]
    have hrestart := Node.restartFrame_eq n.risen (Node.wakeState false n.eq.preStandby)
    rw [hrisen, hcfg, hnow] at hrestart
    have hquiet : (n.risen.restartFrame (Node.wakeState false n.eq.preStandby)).eq.quiet = n.eq.quiet := by
      rw [hrestart]
      rfl
    have hleft : n.frameWake.eq.st = _ := (congrArg Equalizer.st hwoken).trans (hstate.trans (wakeState_false _ _ _))
    refine ⟨hpc, hcu, hli, (congrArg Equalizer.frameMs hwoken).trans (congrArg Equalizer.frameMs hrestart),
      (congrArg Equalizer.slot hwoken).trans (congrArg Equalizer.slot hrestart),
      (congrArg Equalizer.slotEnd hwoken).trans (congrArg Equalizer.slotEnd hrestart),
      congrArg Equalizer.preStandby hwoken, (congrArg Equalizer.quiet hwoken).trans hquiet,
      hchannels, hft, ?_, ?_, hleft, ?_⟩
    all_goals simp [hsilence, Node.silenceStarted, Node.risen]

end Sys2Proof.Machine
end

section
/-! SUPPORT. The converter (01): a conversion that starts, what its timers do, requests and injection orders. -/

namespace Sys2Proof.Machine

/-- R5, R9: the trim code a conversion of a source reads. -/
theorem trimGet_rangeOf (t : TrimTable) {src : Nat} (hlow : 1 ≤ src) (hhigh : src ≤ 21) : t.get (rangeOf src)
    = if src ≤ 14 ∨ src = 21 then t.cell else if src = 19 ∨ src = 20 then t.stack else t.aux := by
  have hcases : (src ≤ 14 ∨ src = 21) ∨ (15 ≤ src ∧ src ≤ 18) ∨ (src = 19 ∨ src = 20) := by omega
  rcases hcases with h | h | h
  · have haux : ¬(15 ≤ src ∧ src ≤ 18) := by omega
    have hstack : ¬(src = 19 ∨ src = 20) := by omega
    simp [rangeOf, isAux, haux, hstack, h, TrimTable.get]
  · have hcell : ¬(src ≤ 14 ∨ src = 21) := by omega
    have hstack : ¬(src = 19 ∨ src = 20) := by omega
    simp [rangeOf, isAux, h, hstack, hcell, TrimTable.get]
  · have hcell : ¬(src ≤ 14 ∨ src = 21) := by omega
    have haux : ¬(15 ≤ src ∧ src ≤ 18) := by omega
    simp [rangeOf, isAux, haux, h, hcell, TrimTable.get]

theorem duration_kindTime (k : ConvKind) : k.duration = kindTime k := by
  cases k <;> rfl

/-- R5, R6, R9: a conversion that starts. -/
theorem startConversion_eq {r : ConvRequest} (hr : r.Named) (n : Node) : n.startConversion r = n.withCu { n.cu with
    st := .converting { request := r, trim := trimRead n.cu.trim r, population := n.cfg.population
                        injection := n.cu.injection, endsAt := n.now + requestTime r }
    request := none } := by
  cases r with
  | source src k =>
    obtain ⟨hlow, hhigh⟩ := hr
    simp only [Node.startConversion, trimRead, requestTime, duration_kindTime, trimGet_rangeOf _ hlow hhigh]
  | zeroInput range code k => simp only [Node.startConversion, trimRead, requestTime, duration_kindTime]
  | lineSpan a b k => simp only [Node.startConversion, trimRead, requestTime, duration_kindTime]

/-- R14: when the converter can grant a free lease. -/
theorem leaseReady_iff (n : Node) :
    n.leaseReady = true ↔ n.cu.st = .idle ∨ ∃ t ∈ n.cu.st.expiry, n.cu.st = .recovering t := by
  unfold Node.leaseReady
  cases n.cu.st <;> simp [CuState.expiry]

/-- R5: a request is about conversions, not about the lease. -/
theorem convRequest_lease (n : Node) (c : Client) (r : ConvRequest) :
    (n.convRequest c r).cu.holder = n.cu.holder ∧ (n.convRequest c r).cu.waiting = n.cu.waiting := by
  unfold Node.convRequest Node.startConversion
  (repeat' split) <;> exact ⟨rfl, rfl⟩

theorem seqConvert_lease (n : Node) (x : Step) :
    (n.seqConvert x).cu.holder = n.cu.holder ∧ (n.seqConvert x).cu.waiting = n.cu.waiting :=
  convRequest_lease _ _ _

theorem seqBeginStep_lease (n : Node) (i : Nat) :
    (n.seqBeginStep i).cu.holder = n.cu.holder ∧ (n.seqBeginStep i).cu.waiting = n.cu.waiting := by
  unfold Node.seqBeginStep
  split
  · exact ⟨rfl, rfl⟩
  · dsimp only
    split
    · split
      · exact seqConvert_lease _ _
      · exact ⟨rfl, rfl⟩
    · exact seqConvert_lease _ _

theorem trimTrial_lease (n : Node) (t : TrimOp) :
    (n.trimTrial t).cu.holder = n.cu.holder ∧ (n.trimTrial t).cu.waiting = n.cu.waiting :=
  convRequest_lease _ _ _

theorem testSpan_lease (n : Node) (l : LineOp) (k : RoundKind) (a b : Nat) :
    (n.testSpan l k a b).cu.holder = n.cu.holder ∧ (n.testSpan l k a b).cu.waiting = n.cu.waiting :=
  convRequest_lease _ _ _

theorem muStart_lease (n : Node) : n.muStart.cu.holder = n.cu.holder ∧ n.muStart.cu.waiting = n.cu.waiting := by
  unfold Node.muStart
  split
  · exact ⟨rfl, rfl⟩
  · split
    · split
      · exact ⟨rfl, rfl⟩
      · exact trimTrial_lease n _
    · exact testSpan_lease n _ _ _ _

theorem muBegin_lease (n : Node) : n.muBegin.cu.holder = n.cu.holder ∧ n.muBegin.cu.waiting = n.cu.waiting := by
  unfold Node.muBegin
  dsimp only
  split
  · exact muStart_lease _
  · exact ⟨rfl, rfl⟩

theorem watchStep_lease (n : Node) (steps : List Nat) :
    (n.watchStep steps).cu.holder = n.cu.holder ∧ (n.watchStep steps).cu.waiting = n.cu.waiting := by
  unfold Node.watchStep
  split
  · exact convRequest_lease _ _ _
  · exact ⟨rfl, rfl⟩

theorem watchStart_lease (n : Node) :
    n.watchStart.cu.holder = n.cu.holder ∧ n.watchStart.cu.waiting = n.cu.waiting := by
  unfold Node.watchStart
  split
  · exact ⟨rfl, rfl⟩
  · exact watchStep_lease n _

theorem watchBegin_lease (n : Node) :
    n.watchBegin.cu.holder = n.cu.holder ∧ n.watchBegin.cu.waiting = n.cu.waiting := by
  unfold Node.watchBegin
  split
  · exact ⟨rfl, rfl⟩
  · dsimp only
    split
    · exact watchStart_lease _
    · exact ⟨rfl, rfl⟩

/-- R14: the client granted holds the lease and waits no longer. -/
theorem grantLease_lease (n : Node) (c : Client) : (n.grantLease c).cu.holder = some c
    ∧ (n.grantLease c).cu.waiting = n.cu.waiting.filter fun d => d != c := by
  cases c
  · exact seqBeginStep_lease _ _
  · exact muBegin_lease _
  · exact watchBegin_lease _

/-- R15: nobody is granted a lease that is held or that nobody waits for. -/
theorem grantWaiting_of_none {n : Node} (h : n.cu.holder ≠ none ∨ n.cu.waiting = [] ∨ ¬n.leaseReady = true) :
    n.grantWaiting = n := by
  unfold Node.grantWaiting
  split
  · rename_i c rest hholder hwaiting
    have hready : ¬n.leaseReady = true := by
      simpa [hholder, hwaiting] using h
    rw [if_neg hready]
  · rfl

/-- R15: the first client that waits is granted the free lease. -/
theorem grantWaiting_of_ready {n : Node} (hholder : n.cu.holder = none) (hready : n.leaseReady = true) {c : Client}
    (hc : n.cu.waiting.head? = some c) : n.grantWaiting = n.grantLease c := by
  obtain ⟨rest, hwaiting⟩ := List.head?_eq_some_iff.mp hc
  simp only [Node.grantWaiting, hholder, hwaiting, hready, if_true]

/-- R5, R8: the pending request starts in IDLE. -/
theorem startPending_of_none {n : Node} (h : n.cu.request = none) : n.startPending = n := by
  unfold Node.startPending
  rw [h]
  split
  · rename_i hr
    cases hr
  · rfl

theorem startPending_of_some {n : Node} (hst : n.cu.st = .idle) {r : ConvRequest} (hr : n.cu.request = some r) :
    n.startPending = n.startConversion r := by
  simp only [Node.startPending, hst, hr]

/-- Settles O33: the settle's and the recovery's end, with somebody waiting or not and a request pending or not. -/
theorem converterTimersEnterIdle : Obligations.ConverterTimersEnterIdle := by
  intro s t hdue idle
  have hready : idle.leaseReady = true := rfl
  refine ⟨fun hst => ?settled, fun hst => ?recovered, fun h => ?nobody, fun hfree c hc => ?granted,
    fun hnone => startPending_of_none hnone, fun r hr hnamed => ?pending⟩
  case settled =>
    have hrow : s.cuSettleExpiry = idle.grantWaiting.startPending.finish := by
      simp only [Node.cuSettleExpiry, hst, Node.timed_of_due hdue]
      rfl
    exact (State.onNode_eq s _).trans (by rw [hrow, State.ends])
  case recovered =>
    have hrow : s.cuRecoveryExpiry = idle.grantWaiting.startPending.finish := by
      simp only [Node.cuRecoveryExpiry, hst, Node.timed_of_due hdue]
      rfl
    exact (State.onNode_eq s _).trans (by rw [hrow, State.ends])
  case nobody => exact grantWaiting_of_none (h.imp_right fun hempty => .inl hempty)
  case granted =>
    have hgrant : idle.grantWaiting = idle.grantLease c := grantWaiting_of_ready (n := idle) hfree hready hc
    exact ⟨hgrant, hgrant ▸ (grantLease_lease idle c).1⟩
  case pending =>
    rw [startPending_of_some (n := idle) rfl (Option.mem_def.mp hr), startConversion_eq hnamed]
    rfl

/-- R5, R12: when a request is taken. -/
theorem requestTaken_iff (n : Node) (r : ConvRequest) : n.requestTaken r = true ↔ match r with
    | .lineSpan a b _ => a ≤ b ∧ b ≤ n.cfg.population
    | _ => True := by
  cases r <;> simp [Node.requestTaken]

/-- Settles O34: a request is taken or not, in each state of the converter; and an injection order. -/
theorem conversionRequestsFollowTheTable : Obligations.ConversionRequestsFollowTheTable := by
  refine ⟨?_, fun n c i => ?_⟩
  · intro n c r taken hr
    have htaken : (n.cu.holder = some c ∧ n.requestTaken r = true) ↔ taken := and_congr_right' (requestTaken_iff n r)
    unfold Node.convRequest
    refine ⟨fun hno => by rw [if_neg (fun h => hno (htaken.mp h))], fun hyes hst => ?_, fun hyes hst => ?_,
      fun hyes hoff hidle => ?_⟩
    · rw [if_pos (htaken.mpr hyes), hst]
    · simp only [if_pos (htaken.mpr hyes), hst, startConversion_eq hr]
    · rw [if_pos (htaken.mpr hyes)]
      cases hst : n.cu.st with
      | off => exact absurd hst hoff
      | idle => exact absurd hst hidle
      | _ => rfl
  · unfold Node.orderInjection
    refine ⟨fun hno => ?_, fun hheld hst => ?_, fun hheld hst => ?_⟩
    · split
      · rename_i hheld
        rw [hno.resolve_left (not_not.mpr hheld)]
      · rfl
    · rw [if_pos hheld]
      obtain hst | ⟨t, -, hst | hst⟩ := hst
      · simp only [hst]
      · simp only [hst]
      · simp only [hst]
    · rw [if_pos hheld]
      cases hcu : n.cu.st with
      | converting v => rfl
      | _ => simp [hcu] at hst

/-- Settles O35: requests, releases and grants of the lease. -/
theorem leaseRequestsFollowTheTable : Obligations.LeaseRequestsFollowTheTable := by
  refine ⟨fun n c => ⟨fun h => ?same, fun hfree hno hready => ?granted, fun hno hout hnot => ?waits,
      fun h => leaseRelease_of_ne h, fun h => ?released⟩,
    fun n => ⟨fun h => ?nobody, fun hfree hready c hc => ?first⟩, fun n => ?grants⟩
  case same =>
    rw [Node.leaseRequest, if_pos (by simpa using h)]
  case granted =>
    have hready' : n.leaseReady = true := (leaseReady_iff n).mpr hready
    have hgrant : n.leaseRequest c = n.grantLease c := by
      rw [Node.leaseRequest, if_neg (by simp [hfree, hno]), if_pos ⟨hfree, hready'⟩]
    exact ⟨hgrant, hgrant ▸ (grantLease_lease n c).1⟩
  case waits =>
    rw [← leaseReady_iff] at hnot
    rw [Node.leaseRequest, if_neg (by simp [hno, hout]), if_neg hnot]
  case released => exact (leaseRelease_of_holder h).trans (congrArg Node.grantWaiting (dropLease_eq n))
  case nobody =>
    refine grantWaiting_of_none ?_
    rwa [leaseReady_iff]
  case first => exact grantWaiting_of_ready hfree ((leaseReady_iff n).mpr hready) hc
  case grants =>
    intro held every mu
    have hheld : ∀ c, held c = n.withCu { n.cu with
        holder := some c, waiting := n.cu.waiting.filter fun d => d != c } := fun c => by simp only [held, ne_filter_eq]
    refine ⟨?_, ?_, fun w hw => ?_⟩
    · rw [hheld]
      rfl
    · simp only [mu, hheld]
      rfl
    · have hpass : n.pc.watchPass = some w := hw
      simp only [Node.grantLease, Node.watchBegin, Node.withCu_pc, hpass, hheld]
      rfl

end Sys2Proof.Machine
end

section
/-! SUPPORT. The sequencer (02): a conversion that completes, the steps of a pass, one pass after another. -/

namespace Sys2Proof.Machine

/-- R6, R13: a completed conversion changes the converter and the clock alone. -/
@[simp] theorem converted_frame (n : Node) (t : Nat) : (n.converted t).now = t
    ∧ (n.converted t).cfg = n.cfg ∧ (n.converted t).seq = n.seq ∧ (n.converted t).mu = n.mu
    ∧ (n.converted t).eq = n.eq ∧ (n.converted t).ft = n.ft ∧ (n.converted t).pc = n.pc := by
  simp [Node.converted]

theorem startPending_lease (n : Node) :
    n.startPending.cu.holder = n.cu.holder ∧ n.startPending.cu.waiting = n.cu.waiting := by
  unfold Node.startPending Node.startConversion
  split <;> exact ⟨rfl, rfl⟩

theorem converted_holder (n : Node) (t : Nat) : (n.converted t).cu.holder = n.cu.holder :=
  (startPending_lease _).1

/-- R6: the row of CONVERSION_COMPLETE at the conversion's end. -/
theorem exec_conversionComplete {s : State} {v : Conversion} (hst : s.cu.st = .converting v) (hdue : s.Due v.endsAt)
    (reading : Int) : exec (.conversionComplete reading) s
      = s.ends ((s.toNode.converted v.endsAt).deliver (v.sample reading)) := by
  have hrow : s.conversionComplete reading = ((s.toNode.converted v.endsAt).deliver (v.sample reading)).finish := by
    simp only [Node.conversionComplete, hst, Node.timed_of_due hdue]
    rfl
  exact (State.onNode_eq s _).trans (by rw [hrow, State.ends])

theorem deliver_of_none {n : Node} (h : n.cu.holder = none) (v : Int) : n.deliver v = n := by
  simp only [Node.deliver, h]

theorem deliver_of_seq {n : Node} (h : n.cu.holder = some .seq) (v : Int) : n.deliver v = n.seqSample v := by
  simp only [Node.deliver, h]

theorem deliver_of_mu {n : Node} (h : n.cu.holder = some .mu) (v : Int) : n.deliver v = n.muReading v := by
  simp only [Node.deliver, h]

theorem deliver_of_watch {n : Node} (h : n.cu.holder = some .watch) (v : Int) : n.deliver v = n.watchSample v := by
  simp only [Node.deliver, h]

/-- R26: the step of the active plan at a position from 1. -/
theorem planStep_eq {n : Node} {p : Plan} (hp : n.seq.active = some p) {i : Nat} (hi : 1 ≤ i) :
    n.planStep i = p.steps[i - 1]? := by
  simp only [Node.planStep, hp]
  rw [if_neg (by omega)]

/-- R28: a sample outside CONVERTING is discarded. -/
theorem seqSample_of_ne {n : Node} (h : n.seq.st ≠ .converting) (v : Int) : n.seqSample v = n := by
  rw [Node.seqSample, if_neg h]

/-- R28, R29: a sample joins the accumulation of the step, or ends the step. -/
theorem seqSample_of_converting {n : Node} (h : n.seq.st = .converting) {i : Nat} (hi : n.seq.stepIndex = some i)
    {x : Step} (hx : n.planStep i = some x) (v : Int) : n.seqSample v
      = if (Accum.add n.seq.acc v).count < x.samples then
          (n.withSeq { n.seq with acc := some (Accum.add n.seq.acc v) }).convRequest .seq (.source x.source x.kind)
        else n.seqStepEnd i x (Accum.add n.seq.acc v) := by
  simp only [Node.seqSample, h, if_true, hi, hx]

/-- R29: a step's result as it is written. -/
def Accum.result (a : Accum) (x : Step) (pass : Nat) : ResultWrite where
  source := x.source
  value := (2 * a.sum + a.count) / (2 * a.count)
  samples := x.samples
  spread := if 1 < a.count then some (a.greatest - a.least).toNat else none
  origin := .plan
  pass := pass

/-- R29, R30: the node with a step's result written and its quiet request released. -/
def Node.stepWritten (n : Node) (x : Step) (a : Accum) : Node :=
  let written := (n.withSeq { n.seq with acc := none }).writeResult (a.result x n.seq.passCounter)
  if x.quiet = true then written.withEq { written.eq with quiet := { written.eq.quiet with seq := none } } else written

theorem stepWritten_active (n : Node) (x : Step) (a : Accum) : (n.stepWritten x a).seq.active = n.seq.active := by
  unfold Node.stepWritten
  dsimp only
  split <;> simp

/-- R29, R30: a step that ends: the next one of the plan begins, or the pass ends. -/
theorem seqStepEnd_eq {n : Node} {p : Plan} (hp : n.seq.active = some p) (i : Nat) (x : Step) (a : Accum) :
    n.seqStepEnd i x a = if i < p.steps.length then (n.stepWritten x a).seqBeginStep (i + 1)
      else (n.stepWritten x a).passEnd := by
  have hend : n.seqStepEnd i x a = if ((n.stepWritten x a).planStep (i + 1)).isSome
      then (n.stepWritten x a).seqBeginStep (i + 1) else (n.stepWritten x a).passEnd := rfl
  have hnext : ((n.stepWritten x a).planStep (i + 1)).isSome = true ↔ i < p.steps.length := by
    rw [planStep_eq ((stepWritten_active n x a).trans hp) (by omega)]
    simp
  rw [hend]
  exact if_congr hnext rfl rfl

/-- R1: the rounding of a reading in thousandths with its trim. -/
theorem roundHalfUp_trimmed (trim : TrimCode) (reading : Int) :
    roundHalfUp (reading + 1000 * trim.toInt) 1000 = trimmed trim reading := by
  unfold roundHalfUp trimmed
  omega

/-- R1: the ends of a source's range. -/
theorem sourceRange_eq (src : Nat) :
    ((1 ≤ src ∧ src ≤ 14) ∨ src = 21 → sourceLow src = 0 ∧ sourceHigh src = 50000)
      ∧ (15 ≤ src ∧ src ≤ 18 → sourceLow src = 0 ∧ sourceHigh src = 65535)
      ∧ (src = 19 → sourceLow src = 0 ∧ sourceHigh src = 40000)
      ∧ (src = 20 → sourceLow src = -400 ∧ sourceHigh src = 1500) := by
  simp only [sourceLow, sourceHigh, isAux, Bool.and_eq_true, decide_eq_true_eq]
  refine ⟨fun h => ?_, fun h => ?_, fun h => ?_, fun h => ?_⟩ <;> constructor <;> split_ifs <;> omega

/-- Settles O36: the sample's holder and the sequencer's state, the count of samples, and the range of a sample. -/
theorem samplesMakeAStepsResult : Obligations.SamplesMakeAStepsResult := by
  refine ⟨fun s v reading hst hdue => ?delivered, fun v reading => ?ranges⟩
  case delivered =>
    intro m x
    have hrow := exec_conversionComplete hst hdue reading
    have hholder : m.cu.holder = s.cu.holder := converted_holder _ _
    have hseq : m.seq = s.seq := by simp [m]
    refine ⟨fun hnone => ?_, fun hhold hne => ?_, fun hhold hconv i hi p hp hpos step hstep => ?_⟩
    · rw [hrow, deliver_of_none (hholder.trans hnone)]
    · rw [hrow, deliver_of_seq (hholder.trans hhold), seqSample_of_ne (by rw [hseq]; exact hne)]
    · intro a written released
      have hactive : m.seq.active = some p := by rw [hseq]; exact hp
      have hadd : Accum.add m.seq.acc x = a := by
        rw [hseq]
        cases hacc : s.seq.acc <;> simp only [a, Accum.add, hacc]
      have hsample := seqSample_of_converting (n := m) (by rw [hseq]; exact hconv) (by rw [hseq]; exact hi)
        ((planStep_eq hactive hpos).trans hstep) x
      rw [hadd, seqStepEnd_eq hactive] at hsample
      have hreleased : m.stepWritten step a = released := by
        simp only [Node.stepWritten, hseq]
        rfl
      rw [hreleased] at hsample
      have hexec : exec (.conversionComplete reading) s = s.ends (m.seqSample x) := by
        rw [hrow, deliver_of_seq (hholder.trans hhold)]
      refine ⟨fun hless => ?_, fun hall hmore => ?_, fun hall hlast => ?_⟩
      · rw [hexec, hsample, if_pos hless, hseq]
      · rw [hexec, hsample, if_neg (by omega), if_pos hmore]
      · rw [hexec, hsample, if_neg (by omega), if_neg (by omega)]
  case ranges =>
    intro within
    refine ⟨fun src kind hr => ?_, fun range code kind hr => ?_, fun a b kind hr => ?_⟩
    · have hsample : v.sample reading = within (sourceLow src) (sourceHigh src) := by
        simp only [Conversion.sample, hr, roundHalfUp_trimmed, clamp, within]
      obtain ⟨hcell, haux, hstack, htemp⟩ := sourceRange_eq src
      refine ⟨fun h => ?_, fun h => ?_, fun h => ?_, fun h => ?_⟩
      · rw [hsample, (hcell h).1, (hcell h).2]
      · rw [hsample, (haux h).1, (haux h).2]
      · rw [hsample, (hstack h).1, (hstack h).2]
      · rw [hsample, (htemp h).1, (htemp h).2]
    · simp only [Conversion.sample, hr, roundHalfUp_trimmed, clamp, within]
    · simp only [Conversion.sample, hr, roundHalfUp_trimmed, clamp, within]

/-- R128: the quiet set of a step. -/
theorem stepQuietSet_eq {src : Nat} (hsrc : 1 ≤ src) (n : Nat) : stepQuietSet src n
    = if src ≤ 14 then (List.range' 1 n).filter fun k => decide (k = src ∨ k + 1 = src ∨ k = src + 1)
      else List.range' 1 n := by
  unfold stepQuietSet
  by_cases hcell : src ≤ 14
  · rw [if_pos ((isCell_iff src).mpr ⟨hsrc, hcell⟩), if_pos hcell]
    refine List.Pairwise.eq_of_mem_iff (r := (· < ·)) (List.Pairwise.filter _ ?_)
      (List.Pairwise.filter _ List.pairwise_lt_range') fun k => ?_
    · simp only [List.pairwise_cons, List.mem_cons, List.not_mem_nil, or_false]
      refine ⟨fun k hk => ?_, fun k hk => ?_, fun k hk => hk.elim, List.Pairwise.nil⟩ <;> omega
    · simp only [List.mem_filter, List.mem_cons, List.not_mem_nil, or_false, Bool.and_eq_true, decide_eq_true_eq,
        List.mem_range'_1]
      omega
  · rw [if_neg (fun h => hcell ((isCell_iff src).mp h).2), if_neg hcell]
    rfl

/-- Settles O37: a step without quiet, one whose request waits, one whose request is granted at once. -/
theorem stepsBeginWithTheirQuietRequest : Obligations.StepsBeginWithTheirQuietRequest := by
  intro n i p x hp hi hx set asked
  have hstep : n.planStep i = some x := (planStep_eq hp hi).trans hx
  have hasked (hsrc : 1 ≤ x.source) : ((n.withSeq { n.seq with stepIndex := some i, st := .quietWait }).quietRequest .seq
      (stepQuietSet x.source n.cfg.population)) = asked := by
    rw [stepQuietSet_eq hsrc]
  have hbegin : n.seqBeginStep i = if x.quiet then
      (if ((n.withSeq { n.seq with stepIndex := some i, st := .quietWait }).quietRequest .seq
        (stepQuietSet x.source n.cfg.population)).quietGranted .seq
        then ((n.withSeq { n.seq with stepIndex := some i, st := .quietWait }).quietRequest .seq
          (stepQuietSet x.source n.cfg.population)).seqConvert x
        else (n.withSeq { n.seq with stepIndex := some i, st := .quietWait }).quietRequest .seq
          (stepQuietSet x.source n.cfg.population))
      else (n.withSeq { n.seq with stepIndex := some i }).seqConvert x := by
    simp only [Node.seqBeginStep, hstep]
    rfl
  refine ⟨fun hq => ?_, fun hq hsrc hwait => ?_, fun hq hsrc hnow => ?_⟩
  · rw [hbegin, if_neg (by simp [hq])]
    rfl
  · rw [hbegin, if_pos hq, hasked hsrc, if_neg (by simp [hwait])]
  · rw [hbegin, if_pos hq, hasked hsrc, if_pos hnow]
    rfl

/-- R31 to R33: how the sequencer continues after a pass, by the mode, the interval and the due time. -/
theorem afterPass_of_single {n : Node} {p : Plan} (hp : n.seq.active = some p) (hmode : p.mode = .single) :
    n.afterPass = n.withSeq { n.seq with st := .stopped, due := none } := by
  simp only [Node.afterPass, hp, hmode]

theorem afterPass_of_unpaced {n : Node} {p : Plan} (hp : n.seq.active = some p) (hmode : p.mode = .continuous)
    (hinterval : p.interval = 0) : n.afterPass = n.passStart false := by
  simp only [Node.afterPass, hp, hmode, hinterval, if_true]

theorem afterPass_of_paced {n : Node} {p : Plan} (hp : n.seq.active = some p) (hmode : p.mode = .continuous)
    (hinterval : p.interval ≠ 0) {d : Nat} (hdue : n.seq.due = some d) :
    n.afterPass = if n.now < d then n.withSeq { n.seq with st := .passGap }
      else if n.now = d then n.passStart false else n.countLate.passStart false := by
  simp only [Node.afterPass, hp, hmode, hdue, if_neg hinterval]

/-- R24: a pass start without an activation. -/
theorem passStart_of_not_activation {n : Node} {p : Plan} (hp : n.seq.active = some p)
    (hno : n.activatesAtPassStart = false) : n.passStart false = ((n.withSeq { n.seq with
      st := .waitingCu
      passCounter := if n.seq.passCounter < 65535 then n.seq.passCounter + 1 else 1
      stepIndex := none
      due := (match p.mode with
        | .single => none
        | .continuous => some (n.now + p.interval * 1000))
      passStart := some n.now
      acc := none }).withLm { n.lm with passSources := [], popMark := false }).leaseRequest .seq := by
  simp only [Node.passStart, hno, Bool.false_or, Bool.false_eq_true, if_false, Node.advancePass, Node.nextDue,
    Node.withSeq_seq, Node.withLm_seq, hp]
  cases p.mode <;> rfl

theorem activatesAtPassStart_iff {n : Node} {p : Plan} (hp : n.seq.active = some p) :
    n.activatesAtPassStart = true ↔ p.mode = .continuous ∧ n.seq.staged ≠ none := by
  simp [Node.activatesAtPassStart, hp, Option.isSome_iff_ne_none]

theorem passStart_of_activates {n : Node} (h : n.activatesAtPassStart = true) : n.passStart false = n.passStart true := by
  simp only [Node.passStart, h, Bool.or_true]

/-- R35: a deferred pass that starts is late under a CONTINUOUS plan with an interval. -/
theorem startDeferred_of_deferred {n : Node} (h : n.seq.st = .deferred) {p : Plan}
    (hp : (n.passStart false).seq.active = some p) : n.startDeferred
      = if p.mode = .continuous ∧ p.interval ≠ 0 then (n.passStart false).countLate else n.passStart false := by
  have hlate : (n.passStart false).deferredIsLate = true ↔ p.mode = .continuous ∧ p.interval ≠ 0 := by
    simp [Node.deferredIsLate, hp]
  rw [Node.startDeferred, if_pos h]
  exact if_congr hlate rfl rfl

/-- R34: the row of PASS_DUE_EXPIRY at the due time. -/
theorem exec_passDueExpiry {s : State} {t : Nat} (hst : s.seq.st = .passGap) (hat : s.seq.due = some t) (hdue : s.Due t) :
    exec .passDueExpiry s = s.ends (if s.mu.inFlight then (s.withNow t).withSeq { s.seq with st := .deferred }
      else (s.withNow t).passStart false) := by
  have harmed : s.seq.armedDue = some t := by
    rw [Sequencer.armedDue, if_pos hst, hat]
  have hrow : s.passDueExpiry = (if s.mu.inFlight then (s.withNow t).withSeq { s.seq with st := .deferred }
      else (s.withNow t).passStart false).finish := by
    simp only [Node.passDueExpiry, harmed, Node.timed_of_due hdue]
    rfl
  exact (State.onNode_eq s _).trans (by rw [hrow, State.ends])

/-- Settles O38: a pass end, the due time, a deferred pass and a pass start, by the plan's mode and interval. -/
theorem passesFollowOneAnother : Obligations.PassesFollowOneAnother := by
  refine ⟨fun n p hp => ⟨rfl, afterPass_of_single hp, afterPass_of_unpaced hp, fun hmode hinterval d hd => ?paced⟩,
    fun s t hst hat hdue => ?due, fun n h => ?idle, fun n h p hp => ?deferred, fun n p hp => ?start⟩
  case paced =>
    rw [afterPass_of_paced hp hmode hinterval hd]
    refine ⟨fun hbefore => if_pos hbefore, fun hat => ?_, fun hafter => ?_⟩
    · rw [if_neg (by omega), if_pos hat]
    · rw [if_neg (by omega), if_neg (by omega)]
      rfl
  case due =>
    rw [exec_passDueExpiry hst hat hdue]
    refine ⟨fun hidle => ?_, fun hbusy => ?_⟩
    · rw [if_neg (by simp [MaintenanceUnit.inFlight, hidle])]
    · rw [if_pos (by simpa [MaintenanceUnit.inFlight] using hbusy)]
  case idle => rw [Node.startDeferred, if_neg h]
  case deferred =>
    rw [startDeferred_of_deferred h hp]
    refine ⟨fun hpaced => if_pos hpaced, fun hunpaced => if_neg fun hpaced => ?_⟩
    rcases hunpaced with hsingle | hzero
    · exact absurd (hsingle.symm.trans hpaced.1) (by decide)
    · exact hpaced.2 hzero
  case start =>
    intro activates q
    by_cases hact : activates
    · obtain ⟨hmode, hstaged⟩ := hact
      obtain ⟨staged, hst⟩ := Option.ne_none_iff_exists'.mp hstaged
      have hq : q = staged := by simp [q, hmode, hst]
      rw [passStart_of_activates ((activatesAtPassStart_iff hp).mpr ⟨hmode, hstaged⟩),
        passStart_of_activation (p := q) (by rw [hst, hq]; rfl)]
      simp only [if_pos (show activates from ⟨hmode, hstaged⟩)] <;> rfl
    · have hq : q = p := by
        by_cases hmode : p.mode = .continuous
        · have hst : n.seq.staged = none := by_contra fun hst => hact ⟨hmode, hst⟩
          simp [q, hst]
        · simp [q, hmode]
      have hno : n.activatesAtPassStart = false :=
        Bool.eq_false_iff.mpr fun h => hact ((activatesAtPassStart_iff hp).mp h)
      rw [passStart_of_not_activation hp hno, hq]
      simp only [if_neg hact, ← hp]
      rfl

end Sys2Proof.Machine
end

section
/-! SUPPORT. The readings of a maintenance operation (R145 to R153). -/

namespace Sys2Proof.Machine

/-- R145, R148: the operation record with its body replaced. -/
theorem withOp_eq {n : Node} {o : Operation} (ho : n.mu.op = some o) (b : OpBody) :
    n.withOp b = n.withMu { n.mu with op := some { o with body := b } } := by
  rw [Node.withOp, ho]
  rfl

theorem trimTrial_eq {n : Node} {o : Operation} (ho : n.mu.op = some o) (t : TrimOp) :
    n.trimTrial t = (n.withMu {
      st := .trimTrial
      op := some { o with body := .trim { t with u := t.u ||| ((1 : BitVec 6) <<< t.bit) } } }).convRequest .mu
        (.zeroInput t.range ((t.u ||| ((1 : BitVec 6) <<< t.bit)) - 32) .fine) := by
  simp only [Node.trimTrial, Node.withOp, Node.withMu_mu, ho, Option.map_some]
  rfl

theorem testSpan_eq {n : Node} {o : Operation} (ho : n.mu.op = some o) (l : LineOp) (k : RoundKind) (a b : Nat) :
    n.testSpan l k a b = (n.withMu {
      st := .spanOff
      op := some { o with body := .line { l with round := k, a := a, b := b } } }).convRequest .mu
        (.lineSpan a b .normal) := by
  simp only [Node.testSpan, Node.withOp, Node.withMu_mu, ho, Option.map_some]
  rfl

theorem muReading_trim {n : Node} {o : Operation} {t : TrimOp} (hst : n.mu.st = .trimTrial) (ho : n.mu.op = some o)
    (ht : o.body = .trim t) (v : Int) : n.muReading v = n.trimReading t v := by
  simp only [Node.muReading, hst, ho, ht]

theorem muReading_spanOff {n : Node} {o : Operation} {l : LineOp} (hst : n.mu.st = .spanOff) (ho : n.mu.op = some o)
    (hl : o.body = .line l) (v : Int) : n.muReading v
      = ((n.withOp (.line { l with offReading := some v })).orderInjection .mu (.on l.a l.b)).withMu
          { ((n.withOp (.line { l with offReading := some v })).orderInjection .mu (.on l.a l.b)).mu with
            st := .injectSettle (((n.withOp (.line { l with offReading := some v })).orderInjection .mu
              (.on l.a l.b)).now + 2000) } := by
  simp only [Node.muReading, hst, ho, hl]
  rfl

theorem muReading_spanOn {n : Node} {o : Operation} {l : LineOp} (hst : n.mu.st = .spanOn) (ho : n.mu.op = some o)
    (hl : o.body = .line l) (v : Int) :
    n.muReading v = (n.orderInjection .mu .off).lineJudge l v (l.offReading.getD 0) := by
  simp only [Node.muReading, hst, ho, hl]

/-- R145: a trial's reading with the bit judged. -/
theorem trimReading_eq (n : Node) (t : TrimOp) (v : Int) {u : BitVec 6}
    (hu : (if 0 < v then t.u &&& ~~~((1 : BitVec 6) <<< t.bit) else t.u) = u) : n.trimReading t v
      = if 0 < t.bit then n.trimTrial { t with u := u, bit := t.bit - 1 } else n.trimCommit { t with u := u } := by
  subst hu
  unfold Node.trimReading
  split <;> rfl

/-- R146: the operation with the code of a range recorded. -/
def TrimOp.recorded (t : TrimOp) : TrimOp := { t with committed := t.committed.set t.range (t.u - 32) }

/-- R146: the node with the code of a range in the trim table and recorded, and its rail judged. -/
def Node.railed (n : Node) (o : Operation) (t : TrimOp) : Node :=
  ((n.withCu { n.cu with trim := n.cu.trim.set t.range (t.u - 32) }).withMu
    { n.mu with op := some { o with body := .trim t.recorded } }).railOutcome t.range t.u

theorem railed_mu (n : Node) (o : Operation) (t : TrimOp) :
    (n.railed o t).mu = { n.mu with op := some { o with body := .trim t.recorded } } := by
  simp [Node.railed]

theorem trimCommit_of_some {n : Node} {o : Operation} (ho : n.mu.op = some o) {t : TrimOp} {r : Range}
    (hr : t.selected.after t.range = some r) : n.trimCommit t = (n.railed o t).trimRange t.recorded r := by
  have hop := withOp_eq (n := n.withCu { n.cu with trim := n.cu.trim.set t.range (t.u - 32) }) ho (.trim t.recorded)
  simp only [Node.trimCommit, hr]
  exact congrArg (fun m : Node => (m.railOutcome t.range t.u).trimRange t.recorded r) hop

theorem trimCommit_of_none {n : Node} {o : Operation} (ho : n.mu.op = some o) {t : TrimOp}
    (hr : t.selected.after t.range = none) :
    n.trimCommit t = (n.railed o t).endOperation 0x60 .ok t.recorded.committed.bytes := by
  have hop := withOp_eq (n := n.withCu { n.cu with trim := n.cu.trim.set t.range (t.u - 32) }) ho (.trim t.recorded)
  simp only [Node.trimCommit, hr]
  exact congrArg (fun m : Node => (m.railOutcome t.range t.u).endOperation 0x60 .ok t.recorded.committed.bytes) hop

/-- R145: the first trial of a range. -/
theorem trimRange_eq {n : Node} {o : Operation} (ho : n.mu.op = some o) (t : TrimOp) (r : Range) :
    n.trimRange t r = (n.withMu {
      st := .trimTrial
      op := some { o with body := .trim { t with range := r, u := 32, bit := 5 } } }).convRequest .mu
        (.zeroInput r 0 .fine) := by
  have hu : (0 : BitVec 6) ||| (1 : BitVec 6) <<< (5 : Nat) = 32 := by decide
  have hcode : (32 : BitVec 6) - 32 = 0 := by decide
  simp only [Node.trimRange, trimTrial_eq ho, hu, hcode]

theorem converted_trim (n : Node) (t : Nat) : (n.converted t).cu.trim = n.cu.trim := by
  unfold Node.converted Node.startPending Node.startConversion
  split <;> rfl

/-- Settles O39: a trial above bit 0, and the commit with a range to follow or none. -/
theorem trimReadingsSearchTheCode : Obligations.TrimReadingsSearchTheCode := by
  intro s v reading o t hst hdue hhold hmu ho ht m u next code committed done table stored rail following
  have hrow := exec_conversionComplete hst hdue reading
  have hm : m.mu = s.mu := by simp [m]
  have hseq : m.seq = s.seq := by simp [m]
  have hop : m.mu.op = some o := hm ▸ ho
  have hread : m.deliver (v.sample reading) = m.trimReading t (v.sample reading) :=
    (deliver_of_mu ((converted_holder _ _).trans hhold) _).trans (muReading_trim (hm ▸ hmu) hop ht _)
  have hexec : exec (.conversionComplete reading) s = s.ends
      (if 0 < t.bit then m.trimTrial { t with u := u, bit := t.bit - 1 } else m.trimCommit { t with u := u }) := by
    rw [hrow, hread, trimReading_eq m t _ rfl]
  have hdone : TrimOp.recorded { t with u := u } = done := by
    cases hr : t.range <;> simp only [TrimOp.recorded, done, committed, Committed.set, code, hr]
  have htable : s.cu.trim.set t.range code = table := by
    cases hr : t.range <;> simp only [table, TrimTable.set, hr]
  have hrail : m.railed o { t with u := u } = rail := by
    have hmtrim : m.cu.trim = s.cu.trim := converted_trim _ _
    have hkeeps : ({ m.mu with op := some { o with body := .trim done } } : MaintenanceUnit)
        = { st := .trimTrial, op := some { o with body := .trim done } } := by
      rw [hm, ← hmu]
    rw [Node.railed, hdone, hkeeps, hmtrim, htable, Node.railOutcome, Node.withMu_seq, Node.withCu_seq, hseq]
  have hrailop : rail.mu.op = some { o with body := .trim done } := by
    rw [← hrail, railed_mu, hdone]
  have hfollowing : t.selected.after t.range = following := by
    cases hr : t.range <;> simp only [following, RangeSet.after, hr]
  refine ⟨fun hbit => ?_, fun hbit r hr => ?_, fun hbit hnone => ?_⟩
  · rw [hexec, if_pos hbit, trimTrial_eq hop]
  · rw [hexec, if_neg (by omega), trimCommit_of_some (t := { t with u := u }) hop (hfollowing.trans hr), hrail, hdone, trimRange_eq hrailop]
  · rw [hexec, if_neg (by omega), trimCommit_of_none (t := { t with u := u }) hop (hfollowing.trans hnone), hrail, hdone]

/-- R148: the line check with a round counted. -/
def LineOp.counted (l : LineOp) : LineOp := { l with rounds := l.rounds + 1, offReading := none }

/-- R148: the node with a round counted. -/
def Node.roundCounted (n : Node) (o : Operation) (l : LineOp) : Node :=
  n.withMu { n.mu with op := some { o with body := .line l.counted } }

theorem lineJudge_first {n : Node} {o : Operation} (ho : n.mu.op = some o) {l : LineOp} (hk : l.round = .first)
    (on off : Int) : n.lineJudge l on off = if l.threshold < (on - off).natAbs
      then (n.roundCounted o l).lineSearch l.counted else (n.roundCounted o l).lineEnd l.counted 0 := by
  simp only [Node.lineJudge, withOp_eq ho, hk, decide_eq_true_eq, Node.roundCounted, LineOp.counted]

theorem lineJudge_search {n : Node} {o : Operation} (ho : n.mu.op = some o) {l : LineOp} (hk : l.round = .search)
    (on off : Int) : n.lineJudge l on off = (n.roundCounted o l).lineSearch
      (if l.threshold < (on - off).natAbs then { l.counted with hi := l.b } else { l.counted with lo := l.b + 1 }) := by
  simp only [Node.lineJudge, withOp_eq ho, hk, decide_eq_true_eq, Node.roundCounted, LineOp.counted]

theorem lineJudge_confirm {n : Node} {o : Operation} (ho : n.mu.op = some o) {l : LineOp} (hk : l.round = .confirm)
    (on off : Int) : n.lineJudge l on off = (n.roundCounted o l).lineEnd l.counted
      (if l.threshold < (on - off).natAbs then 1 else 2) := by
  simp only [Node.lineJudge, withOp_eq ho, hk, decide_eq_true_eq, Node.roundCounted, LineOp.counted]

/-- R148: the row of INJECT_SETTLE_EXPIRY at the settle's end. -/
theorem exec_injectSettleExpiry {s : State} {t : Nat} (hst : s.mu.st = .injectSettle t) (hdue : s.Due t) :
    exec .injectSettleExpiry s = s.ends (s.withNow t).injectSettled := by
  have hrow : s.timed s.mu.st.expiry (fun _ n => n.injectSettled) = (s.withNow t).injectSettled.finish := by
    have hexpiry : s.mu.st.expiry = some t := by rw [hst]; rfl
    rw [hexpiry, Node.timed_of_due hdue]
  exact (State.onNode_eq s _).trans (by rw [hrow, State.ends])

/-- Settles O40: the two readings of a span by its round, the next span, and the settle's end. -/
theorem lineCheckReadingsSearchTheLine : Obligations.LineCheckReadingsSearchTheLine := by
  refine ⟨fun s v reading o l hst hdue hhold ho hl => ?readings, fun n o l ho => ?search,
    fun s t o l hst hdue ho hl => ?settled⟩
  case readings =>
    intro m x counted judged deviates
    have hm : m.mu = s.mu := by simp [m]
    have hop : m.mu.op = some o := hm ▸ ho
    have hexec : exec (.conversionComplete reading) s = s.ends (m.muReading x) := by
      rw [exec_conversionComplete hst hdue reading, deliver_of_mu ((converted_holder _ _).trans hhold)]
    refine ⟨fun hoff => ?_, fun hon => ?_⟩
    · have hkept : m.withOp (.line { l with offReading := some x })
          = m.withMu { st := .spanOff, op := some { o with body := .line { l with offReading := some x } } } := by
        rw [withOp_eq hop, hm, ← hoff]
      have hmu : ((m.withMu { st := .spanOff, op := some { o with body := .line { l with offReading := some x } } }
          ).orderInjection .mu (.on l.a l.b)).mu
          = { st := .spanOff, op := some { o with body := .line { l with offReading := some x } } } := by
        simp
      have hnow : ((m.withMu { st := .spanOff, op := some { o with body := .line { l with offReading := some x } } }
          ).orderInjection .mu (.on l.a l.b)).now = v.endsAt := by
        simp [m]
      rw [hexec, muReading_spanOff (hm ▸ hoff) hop hl, hkept, hmu, hnow]
    · have hordered : (m.orderInjection .mu .off).mu = s.mu := by simp [m]
      have hop' : (m.orderInjection .mu .off).mu.op = some o := hordered ▸ ho
      have hjudged : (m.orderInjection .mu .off).roundCounted o l = judged := by
        rw [Node.roundCounted, hordered]
        simp only [judged, ← hon]
        rfl
      rw [hexec, muReading_spanOn (hm ▸ hon) hop hl]
      refine ⟨fun hk hdev => ?_, fun hk hdev => ?_, fun hk hdev => ?_, fun hk hdev => ?_, fun hk hdev => ?_,
        fun hk hdev => ?_⟩
      · rw [lineJudge_first hop' hk, if_neg hdev, hjudged]
        rfl
      · rw [lineJudge_first hop' hk, if_pos hdev, hjudged]
        rfl
      · rw [lineJudge_search hop' hk, if_pos hdev, hjudged]
        rfl
      · rw [lineJudge_search hop' hk, if_neg hdev, hjudged]
        rfl
      · rw [lineJudge_confirm hop' hk, if_pos hdev, hjudged]
        rfl
      · rw [lineJudge_confirm hop' hk, if_neg hdev, hjudged]
        rfl
  case search =>
    intro b round
    rw [Node.lineSearch]
    by_cases h : l.lo < l.hi
    · rw [if_pos h, testSpan_eq ho]
      simp only [b, round, if_pos h]
    · rw [if_neg h, testSpan_eq ho]
      simp only [b, round, if_neg h]
  case settled =>
    have hop : (s.withNow t).mu.op = some o := ho
    rw [exec_injectSettleExpiry hst hdue]
    simp only [Node.injectSettled, hop, hl, ho]

/-- R90: the lines a check's end clears. -/
theorem clearLines_eq (n : Node) (keep : Option Nat) : n.clearLines keep = n.withFt { n.ft with
    entries := n.ft.entries.map fun e =>
      if e.kind = .lineOpen ∧ keep ≠ some e.source then { e with active := false } else e } := by
  simp only [Node.clearLines, Bool.and_eq_true, beq_iff_eq, bne_iff_ne]

/-- Settles O41: the three results, the end of an operation, and a completion reply with a free place or without. -/
theorem operationsEndWithTheirReply : Obligations.OperationsEndWithTheirReply := by
  refine ⟨fun n l => ?ends, fun n o kind st data ho hkind => ?reply, fun n owner reply => ?queue⟩
  case ends =>
    intro cleared
    have hcleared : ∀ keep, n.clearLines keep = cleared keep := clearLines_eq n
    refine ⟨?_, ?_, rfl⟩
    · rw [← hcleared]
      rfl
    · rw [← hcleared]
      rfl
  case reply =>
    intro m reply
    have hkindReply : replyKind kind = kind + 0x80 := by
      rcases hkind with rfl | rfl <;> rfl
    rw [endOperation_eq ho, hkindReply]
    rfl
  case queue =>
    have hfree : (n.replyFree && n.ch.pendingReplies.isEmpty) = true
        ↔ n.ch.replyQueue.length < 4 ∧ n.ch.pendingReplies = [] := by
      simp only [Node.replyFree, Bool.and_eq_true, decide_eq_true_eq, List.isEmpty_iff]
      exact Iff.rfl
    refine ⟨fun hshort hnone => ?_, fun hfull => ?_⟩
    · rw [Node.completionReply, if_pos (hfree.mpr ⟨hshort, hnone⟩)]
    · rw [Node.completionReply, if_neg fun h => ?_]
      obtain ⟨hshort, hnone⟩ := hfree.mp h
      exact hfull.elim (fun hlong => by omega) fun hsome => hsome hnone

end Sys2Proof.Machine
end

section
/-! SUPPORT. Quiet requests and their grants (R129, R130), and the slot boundary (R101). -/

namespace Sys2Proof.Machine

/-- R129: the latest open-since of a set, as the largest of a list. -/
theorem latestOpen_eq (e : Equalizer) (set : List Nat) : e.latestOpen set
    = ((e.channels.filter fun c => decide (c.num ∈ set)).map fun c => c.openSince).foldr max 0 := by
  have hfold (l : List Channel) (a : Nat) :
      l.foldl (fun t c => if c.num ∈ set then max t c.openSince else t) a
        = max a (((l.filter fun c => decide (c.num ∈ set)).map fun c => c.openSince).foldr max 0) := by
    induction l generalizing a with
    | nil => simp
    | cons c l ih =>
      by_cases hc : c.num ∈ set
      · simp [ih, hc, Nat.max_assoc]
      · simp [ih, hc]
  simp only [Equalizer.latestOpen, List.contains_iff_mem, hfold, Nat.zero_max]

/-- R129: the node with a quiet request in the list. -/
theorem quietRequest_eq (n : Node) (who : Client) (set : List Nat) :
    let channels := n.eq.channels.map fun c => if c.num ∈ set ∧ c.closed = true
      then { c with closed := false, openSince := n.now, kept := decide (n.eq.slotEnd = some n.now) } else c
    let latest := ((channels.filter fun c => decide (c.num ∈ set)).map fun c => c.openSince).foldr max 0
    let grantAt := max n.now (latest + n.cfg.quietSettle * 100)
    n.quietRequest who set = n.withEq { n.eq with
      channels := channels
      quiet := n.eq.quiet.set who (some {
        set := set
        settle := n.cfg.quietSettle * 100
        grantAt := grantAt
        granted := decide (grantAt ≤ n.now) }) } := by
  intro channels latest grantAt
  have hend : n.eq.atSlotEnd n.now = decide (n.eq.slotEnd = some n.now) :=
    Bool.eq_iff_iff.mpr (by simp [Equalizer.atSlotEnd])
  have hchannels : (n.eq.mapChannels fun c =>
      if set.contains c.num then c.openAt n.now (n.eq.atSlotEnd n.now) else c) = { n.eq with channels := channels } := by
    have hone : (fun c : Channel => if set.contains c.num then c.openAt n.now (n.eq.atSlotEnd n.now) else c)
        = fun c => if c.num ∈ set ∧ c.closed = true
          then { c with closed := false, openSince := n.now, kept := decide (n.eq.slotEnd = some n.now) } else c := by
      funext c
      by_cases hset : c.num ∈ set
      · cases hclosed : c.closed <;> simp [Channel.openAt, hset, hclosed, hend]
      · simp [hset]
    rw [hone]
    rfl
  have hlatest : ({ n.eq with channels := channels } : Equalizer).latestOpen set = latest := latestOpen_eq _ _
  simp only [Node.quietRequest, hchannels, hlatest]
  rfl

/-- R130: the row of QUIET_GRANT at the grant time of a waiting request. -/
theorem exec_quietGrant {s : State} {who : Client} {r : QuietReq} (hr : s.eq.quiet.get who = some r)
    (hwait : r.granted = false) (hdue : s.Due r.grantAt) : exec (.quietGrant who) s
      = s.ends (((s.withNow r.grantAt).withEq { s.eq with
          quiet := s.eq.quiet.set who (some { r with granted := true }) }).actOnGrant who) := by
  have huntil : r.waitingUntil = some r.grantAt := by
    simp [QuietReq.waitingUntil, hwait]
  have hrow : s.quietGrant who = (((s.withNow r.grantAt).withEq { s.eq with
      quiet := s.eq.quiet.set who (some { r with granted := true }) }).actOnGrant who).finish := by
    simp only [Node.quietGrant, hr, huntil, Node.timed_of_due hdue]
    rfl
  exact (State.onNode_eq s _).trans (by rw [hrow, State.ends])

theorem actOnGrant_seq {n : Node} (hst : n.seq.st = .quietWait) {i : Nat} (hi : n.seq.stepIndex = some i) {x : Step}
    (hx : n.planStep i = some x) : n.actOnGrant .seq = n.seqConvert x := by
  simp only [Node.actOnGrant, hst, hi, Option.bind_some, hx]

theorem actOnGrant_seq_of_ne {n : Node} (hst : n.seq.st ≠ .quietWait) : n.actOnGrant .seq = n := by
  simp only [Node.actOnGrant]
  split
  · rename_i h _
    exact absurd h hst
  · rfl

theorem muStart_trim {n : Node} {o : Operation} (ho : n.mu.op = some o) {t : TrimOp} (ht : o.body = .trim t) {r : Range}
    (hr : t.selected.first = some r) : n.muStart = n.trimRange t r := by
  simp only [Node.muStart, ho, ht, hr]

/-- R145: the first selected range. -/
theorem RangeSet.first_eq (s : RangeSet) (h : s.cell = true ∨ s.aux = true ∨ s.stack = true) :
    s.first = some (if s.cell = true then .cell else if s.aux = true then .aux else .stack) := by
  obtain ⟨cell, aux, stack⟩ := s
  cases cell
  · cases aux
    · have hstack : stack = true := by simpa using h
      simp [RangeSet.first, hstack]
    · rfl
  · rfl

/-- Settles O42: a request, its grant by requester, and what the maintenance unit and the watch pass begin. -/
theorem quietRequestsAreGrantedWhenSettled : Obligations.QuietRequestsAreGrantedWhenSettled := by
  refine ⟨quietRequest_eq, fun s who r hr hwait hdue => ?grant, fun n o x ho hx hsome => ?trim,
    fun n o l ho hl => ?line, fun n w hw => ?watch⟩
  case grant =>
    intro m
    have hexec := exec_quietGrant hr hwait hdue
    refine ⟨?_, ?_, ?_, ?_, ?_, ?_⟩
    · rintro rfl hst i hi p hp hpos x hx
      rw [hexec, actOnGrant_seq (n := m) hst hi ((planStep_eq (n := m) hp hpos).trans hx)]
      rfl
    · rintro rfl hst
      rw [hexec, Node.actOnGrant, if_pos (show m.mu.st = .quietWait from hst)]
    · rintro rfl w hw hst
      have hpass : m.pc.watchPass = some w := hw
      rw [hexec]
      simp only [m, Node.actOnGrant, hpass, hst, if_true]
    · rintro rfl hst
      rw [hexec, actOnGrant_seq_of_ne (n := m) hst]
    · rintro rfl hst
      rw [hexec, Node.actOnGrant, if_neg (show ¬m.mu.st = .quietWait from hst)]
    · rintro rfl hnone
      have hpass : m.pc.watchPass = none := hnone
      rw [hexec]
      simp only [m, Node.actOnGrant, hpass]
  case trim => exact (muStart_trim ho hx (RangeSet.first_eq _ hsome)).trans (trimRange_eq ho _ _)
  case line =>
    simp only [Node.muStart, ho, hl, testSpan_eq ho]
  case watch =>
    simp only [Node.watchStart, hw]
    rfl

end Sys2Proof.Machine
end

section
/-! SUPPORT. The slot boundary (R101): its four parts, said once. -/

namespace Sys2Proof.Machine

namespace Channel

theorem counts_iff (c : Channel) : c.counts = true ↔ c.Served := by
  simp [counts, Served]

theorem completes_iff (c : Channel) : c.completes = true ↔ c.Served ∧ c.budget = 1 := by
  simp [completes, counts_iff]

theorem inWindow_iff (num duty slot : Nat) :
    inWindow num duty slot = true ↔ if num % 2 = 1 then slot < duty else 32 ≤ slot ∧ slot < 32 + duty := by
  unfold inWindow
  split <;> simp

/-- R104: a channel that opens unless a condition holds. -/
theorem openUnless_eq {c : Channel} (hkept : c.kept = false) (t : Nat) (p : Prop) [Decidable p] :
    (if p then c else c.openAt t false) = { c with
      closed := c.closed && decide p
      openSince := if c.closed = true ∧ ¬p then t else c.openSince } := by
  obtain ⟨num, duty, budget, staged, closed, openSince, lifetime, done, kept⟩ := c
  subst hkept
  by_cases hp : p
  · simp [hp]
  · cases closed <;> simp [openAt, hp]

/-- R101, R105, R106: part 1 for one channel. -/
theorem endSlot_eq (t next : Nat) (c : Channel) : c.endSlot t next = c.afterPartOne t next := by
  have hbudget : c.counted.budget = c.budgetAfter := by
    simp only [counted, counts_iff, budgetAfter]
    split <;> rfl
  have hcounted : c.counted = { c with
      budget := c.budgetAfter
      lifetime := if c.Served then c.lifetime + 1 else c.lifetime } := by
    simp only [counted, counts_iff, budgetAfter]
    split <;> rfl
  have hdone : c.completes = decide (c.Served ∧ c.budget = 1) :=
    Bool.eq_iff_iff.mpr ((completes_iff c).trans decide_eq_true_iff.symm)
  have hstays : (inWindow c.num c.duty next && decide (0 < c.budgetAfter)) = true
      ↔ (if c.num % 2 = 1 then next < c.duty else 32 ≤ next ∧ next < 32 + c.duty) ∧ 0 < c.budgetAfter := by
    rw [Bool.and_eq_true, inWindow_iff, decide_eq_true_eq]
  simp only [endSlot, hcounted, hdone]
  rw [if_congr hstays rfl rfl, openUnless_eq rfl]
  rfl

/-- R110: a channel with its staged values applied. -/
theorem applyStaged_eq (c : Channel) : c.applyStaged = { c with
    duty := c.staged.elim c.duty fun v => v.duty
    budget := c.staged.elim c.budget fun v => v.budget
    staged := none } := by
  obtain ⟨num, duty, budget, staged, closed, openSince, lifetime, done, kept⟩ := c
  cases staged <;> rfl

end Channel

namespace Node

/-- R107, R180: EQ_FINISHED handed on, or not. -/
def finishNoted (finished : Bool) (n : Node) : Node :=
  if finished = true ∧ n.cfg.alertEnable = true
  then n.withCh { n.ch with reasons := { n.ch.reasons with eqFinished := true } } else n

theorem finishNoted_withEq (finished : Bool) (n : Node) (e : Equalizer) :
    (n.finishNoted finished).withEq e = (n.withEq e).finishNoted finished :=
  apply_ite (fun m : Node => m.withEq e) _ _ _

theorem finishNoted_frame (finished : Bool) (n : Node) : (n.finishNoted finished).cfg = n.cfg
    ∧ (n.finishNoted finished).lm = n.lm ∧ (n.finishNoted finished).ft = n.ft ∧ (n.finishNoted finished).eq = n.eq := by
  unfold finishNoted
  split <;> exact ⟨rfl, rfl, rfl, rfl⟩

/-- R101: part 1 of a slot boundary. -/
theorem endSlot_node_eq (n : Node) : n.endSlot = (n.withEq { n.eq with
    st := if n.finishes then .idle else n.eq.st
    channels := n.eq.channels.map fun c => c.afterPartOne n.now (nextSlot n.eq.slot) }).finishNoted n.finishes := by
  have hchannels : n.eq.mapChannels (Channel.endSlot n.now (nextSlot n.eq.slot)) = { n.eq with
      channels := n.eq.channels.map fun c => c.afterPartOne n.now (nextSlot n.eq.slot) } := by
    simp only [Equalizer.mapChannels, ← Channel.endSlot_eq]
  unfold endSlot
  simp only [hchannels]
  have hfinishes : n.finishes = (n.eq.st == .running && n.eq.channels.any Channel.completes
      && !({ n.eq with channels := n.eq.channels.map fun c => c.afterPartOne n.now (nextSlot n.eq.slot) }
        : Equalizer).owes) := by
    rw [finishes, hchannels]
  rw [← hfinishes]
  cases hfin : n.finishes
  · simp [finishNoted]
  · simp only [finishNoted, addReason, if_true, true_and]

/-- R107: when the Equalizer finishes. -/
theorem finishes_iff (n : Node) : n.finishes = true ↔ n.eq.st = .running
    ∧ (∃ c ∈ n.eq.channels, c.Served ∧ c.budget = 1)
    ∧ ∀ c ∈ n.eq.channels.map fun c => c.afterPartOne n.now (nextSlot n.eq.slot), c.budget = 0 := by
  simp only [finishes, Bool.and_eq_true, beq_iff_eq, List.any_eq_true, Channel.completes_iff, Bool.not_eq_true',
    ← Bool.not_eq_true, Equalizer.owes_iff, Equalizer.mapChannels_channels, ← Channel.endSlot_eq, not_exists, not_and,
    Nat.not_lt, Nat.le_zero, and_assoc]

/-- R110: the state after staged values have been applied. -/
theorem adjusted_eq (e : Equalizer) : e.adjusted
    = if e.st = .idle ∨ e.st = .running then (if e.owes then .running else .idle) else e.st := by
  unfold Equalizer.adjusted
  cases e.st <;> simp

/-- R110: part 3 of a frame boundary. -/
theorem stagedApplied_eq (e : Equalizer) : e.stagedApplied = { e with
    st := if e.st = .idle ∨ e.st = .running
      then (if (e.channels.map Channel.applyStaged).any (fun c => decide (0 < c.budget)) then .running else .idle)
      else e.st
    channels := e.channels.map Channel.applyStaged } := by
  simp only [Equalizer.stagedApplied, adjusted_eq]
  rfl

theorem finishNoted_boundary (finished : Bool) (n : Node) :
    (n.finishNoted finished).takeFrameLength.withEq (n.finishNoted finished).takeFrameLength.eq.stagedApplied
      = (n.withEq { n.eq with frameMs := n.cfg.eqFrame }.stagedApplied).finishNoted finished := by
  obtain ⟨hcfg, -, -, heq⟩ := finishNoted_frame finished n
  simp only [takeFrameLength, hcfg, heq, finishNoted_withEq, withEq_eq, (finishNoted_frame _ _).2.2.2]
  rfl

/-- R101: a slot that begins, as a change of the Equalizer. -/
theorem beginSlot_withEq (n : Node) (k t : Nat) : n.beginSlot k t = n.withEq { n.eq with
    slot := k
    slotEnd := some (t + n.eq.frameMs * 1000 / 64)
    channels := n.eq.channels.map fun c => if n.mayClose k c = true then { c with closed := true } else c } := by
  have h : n.beginSlot k t = n.withEq (n.beginSlot k t).eq := rfl
  rw [h, beginSlot_eq]
  rfl

end Node

/-- R101: the row of SLOT_BOUNDARY at the slot's end. -/
theorem exec_slotBoundary {s : State} {t : Nat} (hend : s.eq.slotEnd = some t) (hdue : s.Due t) :
    exec .slotBoundary s = s.ends ((s.withNow t).slotBoundary t) := by
  have hrow : s.slotExpiry = ((s.withNow t).slotBoundary t).finish := by
    rw [Node.slotExpiry, hend, Node.timed_of_due hdue]
  exact (State.onNode_eq s _).trans (by rw [hrow, State.ends])

/-- Settles O43: the channels, the state and the frame length part by part. -/
theorem slotBoundariesCountAndClose : Obligations.SlotBoundariesCountAndClose := by
  intro s t hend hdue next counted finished active owed st1 st2 frameMs m closing
  have hfinished : (s.withNow t).finishes = finished := Bool.eq_iff_iff.mpr
    ((Node.finishes_iff (s.withNow t)).trans decide_eq_true_iff.symm)
  have hpart1 : (s.withNow t).endSlot
      = ((s.withNow t).withEq { s.eq with st := st1, channels := counted }).finishNoted finished := by
    rw [Node.endSlot_node_eq, hfinished]
    rfl
  have hframe : (if next = 0 then (s.withNow t).endSlot.takeFrameLength.withEq
        (s.withNow t).endSlot.takeFrameLength.eq.stagedApplied else (s.withNow t).endSlot)
      = ((s.withNow t).withEq { s.eq with st := st2, frameMs := frameMs, channels := active }).finishNoted finished := by
    rw [hpart1]
    by_cases hnext : next = 0
    · have hstaged : counted.map Channel.applyStaged = active := by
        simp only [active, if_pos hnext]
        exact List.map_congr_left fun c _ => c.applyStaged_eq
      rw [if_pos hnext, Node.finishNoted_boundary, Node.stagedApplied_eq]
      simp only [Node.withEq_eq, hstaged, st2, frameMs, owed, hnext, true_and, if_true]
      rfl
    · simp only [st2, frameMs, active, hnext, false_and, if_false]
  have hmay (c : Channel) : (((s.withNow t).withEq { s.eq with st := st2, frameMs := frameMs, channels := active }
        ).finishNoted finished).mayClose next c = true ↔ st2 = .running
      ∧ (if c.num % 2 = 1 then next < c.duty else 32 ≤ next ∧ next < 32 + c.duty) ∧ 0 < c.budget
      ∧ s.eq.quiet.holds c.num = false ∧ s.inhibited c.num = false := by
    obtain ⟨hcfg, hlm, hft, heq⟩ := Node.finishNoted_frame finished
      ((s.withNow t).withEq { s.eq with st := st2, frameMs := frameMs, channels := active })
    rw [Node.mayClose_iff, Channel.inWindow_iff, heq, Node.inhibited_congr hcfg hlm hft]
    exact Iff.rfl
  have hboundary : (s.withNow t).slotBoundary t = closing.finishNoted finished := by
    have hbegin : (s.withNow t).slotBoundary t
        = (((s.withNow t).withEq { s.eq with st := st2, frameMs := frameMs, channels := active }).finishNoted finished
          ).beginSlot next t := by
      rw [← hframe]
      rfl
    rw [hbegin, Node.beginSlot_withEq, (Node.finishNoted_frame _ _).2.2.2, Node.finishNoted_withEq]
    simp only [hmay]
    rfl
  rw [exec_slotBoundary hend hdue, hboundary]
  rfl

end Sys2Proof.Machine
end

section
/-! SUPPORT. The timers of the link and of the alerts (R171, R181, R166, R167). -/

namespace Sys2Proof.Machine

/-- R117: SAFE_STOP, from the states it is entered from. -/
theorem safeStop_eq (n : Node) : n.safeStop = if n.eq.st = .idle ∨ n.eq.st = .running
    then n.withEq { n.eq with
      st := .safeStop
      channels := n.eq.channels.map fun c => { c with
        closed := false
        openSince := if c.closed = true then n.now else c.openSince
        kept := false } }
    else n := by
  unfold Node.safeStop
  rw [cutAll_eq]
  cases n.eq.st <;> rfl

/-- R181: an ALERT that is wanted waits for the end of its holdoff. -/
theorem alertExpiry_eq {n : Node} (hwanted : n.alertWanted = true) {u : Nat} (hlast : n.ch.lastAlert = some u)
    (hlater : n.now < u + n.cfg.alertHoldoff * 10000) : n.alertExpiry = some (u + n.cfg.alertHoldoff * 10000) := by
  have hend : n.holdoffEnd = some (u + n.cfg.alertHoldoff * 10000) := by
    rw [Node.holdoffEnd, hlast]
    rfl
  have hdue : n.alertDue = false := by
    simp only [Node.alertDue, hend, Bool.and_eq_false_iff, decide_eq_false_iff_not, Nat.not_le]
    exact .inr hlater
  rw [Node.alertExpiry, if_pos (by simp [hwanted, hdue]), hend]

/-- Settles O44: each timer of the link and the alert holdoff at its expiry. -/
theorem timersOfLinkAndAlertsExpire : Obligations.TimersOfLinkAndAlertsExpire := by
  refine fun s t hdue => ⟨fun hsilence => ?silence, fun hreason hon haddress hactive hbefore hat hsome => ?alert,
    fun htx => ?north, fun htx => ?reply, fun htx => ?forward⟩
  case silence =>
    intro m
    have hrow : s.timed s.li.silence (fun _ n => n.linkSilence) = m.safeStop.finish := by
      rw [hsilence, Node.timed_of_due hdue]
      rfl
    have heq : m.eq = s.eq := by simp [m]
    have hnow : m.now = t := by simp [m]
    refine (State.onNode_eq s _).trans ?_
    rw [hrow, State.ends, safeStop_eq, heq, hnow]
  case alert =>
    obtain ⟨u, hlast⟩ := Option.ne_none_iff_exists'.mp hsome
    have hu : u + s.cfg.alertHoldoff * 10000 = t := hat u hlast
    have hwanted : s.alertWanted = true := by
      simp only [Node.alertWanted, AlertReasons.any, Bool.and_eq_true, Bool.or_eq_true, bne_iff_ne, beq_iff_eq, or_assoc]
      exact ⟨⟨⟨hreason, hon⟩, haddress⟩, hactive⟩
    have hrow : s.timed s.alertExpiry (fun _ n => n) = (s.withNow t).finish := by
      rw [alertExpiry_eq hwanted hlast (by omega), hu, Node.timed_of_due hdue]
    exact (State.onNode_eq s _).trans (by rw [hrow, State.ends])
  case north =>
    have hrow : s.timed s.li.txN (fun _ n => n.northSent) = (s.withNow t).northSent.finish := by
      rw [htx, Node.timed_of_due hdue]
    exact (State.onNode_eq s _).trans (by rw [hrow, State.ends]; rfl)
  case reply =>
    have hrow : s.txSExpiry = ((s.withNow t).southSent .reply).finish := by
      simp only [Node.txSExpiry, htx, Node.timed_of_due hdue]
    exact (State.onNode_eq s _).trans (by rw [hrow, State.ends]; rfl)
  case forward =>
    have hrow : s.txSExpiry = ((s.withNow t).southSent .forward).finish := by
      simp only [Node.txSExpiry, htx, Node.timed_of_due hdue]
    exact (State.onNode_eq s _).trans (by rw [hrow, State.ends]; rfl)

end Sys2Proof.Machine
end

section
/-! SUPPORT. The watch pass (R194, R195, R123). -/

namespace Sys2Proof.Machine

/-- R194: the row of WATCH_TIMER_EXPIRY at the timer's end. -/
theorem exec_watchTimerExpiry {s : State} {t : Nat} (hat : s.pc.watchTimer = some t) (hdue : s.Due t) :
    exec .watchTimerExpiry s = s.ends (s.withNow t).watchPassStart := by
  have hrow : s.timed s.pc.watchTimer (fun _ n => n.watchPassStart) = (s.withNow t).watchPassStart.finish := by
    rw [hat, Node.timed_of_due hdue]
  exact (State.onNode_eq s _).trans (by rw [hrow, State.ends])

/-- R194: which step a watch pass runs. -/
theorem watchRuns_eq (n : Node) (src : Nat) : n.watchRuns src = decide ((src ≤ 14 → 1 ≤ src → src ≤ n.cfg.population)
    ∧ (15 ≤ src → src ≤ 18 → n.cfg.role (src - 14) ≠ .general)) := by
  have haux : isAux src = true ↔ 15 ≤ src ∧ src ≤ 18 := by simp [isAux]
  refine Bool.eq_iff_iff.mpr (Iff.trans ?_ decide_eq_true_iff.symm)
  unfold Node.watchRuns
  split
  · rename_i hcell
    rw [isCell_iff] at hcell
    rw [decide_eq_true_eq]
    exact ⟨fun h => ⟨fun _ _ => h, fun h15 => by omega⟩, fun h => h.1 hcell.2 hcell.1⟩
  · rename_i hcell
    rw [isCell_iff] at hcell
    split
    · rename_i hin
      rw [haux] at hin
      rw [bne_iff_ne]
      exact ⟨fun h => ⟨fun h14 => by omega, fun _ _ => h⟩, fun h => h.2 hin.1 hin.2⟩
    · rename_i hin
      rw [haux] at hin
      exact iff_of_true rfl ⟨fun h14 h1 => absurd ⟨h1, h14⟩ hcell, fun h15 h18 => absurd ⟨h15, h18⟩ hin⟩

theorem watchStep_of_find {n : Node} {w : WatchPass} (hw : n.pc.watchPass = some w) {steps : List Nat} {src : Nat}
    (hfind : steps.find? n.watchRuns = some src) : n.watchStep steps
      = (n.withPc { n.pc with watchPass := some { w with stage := .converting src } }).convRequest .watch
          (.source src .fast) := by
  simp only [Node.watchStep, hw, hfind]

theorem watchStep_of_none {n : Node} {steps : List Nat} (hfind : steps.find? n.watchRuns = none) :
    n.watchStep steps = n := by
  unfold Node.watchStep
  rw [hfind]
  split
  · rename_i h
    cases h
  · rfl

/-- R194, R56: the node with a watch step's result written, or discarded. -/
def Node.watchWritten (n : Node) (w : WatchPass) (src : Nat) (x : Int) : Node :=
  if 1 ≤ src ∧ src ≤ 14 ∧ n.cfg.population < src then n else n.writeResult {
    source := src, value := x, samples := 1, spread := none, origin := .watch, pass := w.pass }

theorem watchSample_eq {n : Node} {w : WatchPass} (hw : n.pc.watchPass = some w) {src : Nat}
    (hstage : w.stage = .converting src) (x : Int) : n.watchSample x
      = if src = 21 then (n.watchWritten w src x).watchPassEnd w.pass
        else (n.watchWritten w src x).watchStep (afterFirst src (watchOrder w.n)) := by
  have hgone : (isCell src && decide (n.cfg.population < src)) = true
      ↔ 1 ≤ src ∧ src ≤ 14 ∧ n.cfg.population < src := by
    rw [Bool.and_eq_true, isCell_iff, decide_eq_true_eq, and_assoc]
  have hwritten : (if isCell src && decide (n.cfg.population < src) then n else n.watchWrite w src x)
      = n.watchWritten w src x := if_congr hgone rfl rfl
  simp only [Node.watchSample, hw, hstage]
  rw [hwritten]
  rfl

/-- R195: a watch pass that has ended, before the Power Controller decides. -/
def Node.watchEnded (n : Node) (pass : Nat) : Node :=
  let ended := ((n.plausibility pass).quietRelease .watch).leaseRelease .watch
  ended.withPc { ended.pc with watchPass := none }

theorem watchPassEnd_eq (n : Node) (pass : Nat) : n.watchPassEnd pass = (n.watchEnded pass).watchDecide := rfl

theorem watchEnded_works (n : Node) (pass : Nat) : n.Works (n.watchEnded pass) :=
  .trans (Node.Move.works (.passChecked pass)) (.trans (Node.Move.works (.quietLeft .watch))
    (.trans (Node.leaseRelease_works _ .watch) (Node.Move.works (.watchPass none))))

theorem watchWritten_works (n : Node) (w : WatchPass) (src : Nat) (x : Int) : n.Works (n.watchWritten w src x) := by
  unfold Node.watchWritten
  split
  · exact .refl _
  · exact Node.Move.works (.resultWritten _)

/-- What works inside an event leaves the power state and the phase as they were. -/
theorem Node.Works.power_eq {n m : Node} (h : n.Works m) : m.pc.power = n.pc.power ∧ m.pc.phase = n.pc.phase :=
  h.keeps (P := fun m => m.pc.power = n.pc.power ∧ m.pc.phase = n.pc.phase)
    (fun a b hab ha => by
      obtain ⟨x, w, hpc⟩ := hab.pc_eq
      rw [hpc]
      exact ha)
    ⟨rfl, rfl⟩

/-- R195: what the Power Controller decides. -/
theorem watchDecide_of_active {n : Node} (h : n.pc.power = .active) : n.watchDecide = n := by
  simp only [Node.watchDecide, h]

theorem watchDecide_of_raise {n : Node} (h : n.pc.power = .standby) (hraise : n.pc.watchRaise = true) :
    n.watchDecide = ((((n.withPc { n.pc with power := .active }).addReason fun r => { r with watchWake := true }).eqWake
      true).silenceStarted n.cfg.silenceTimeout) := by
  simp only [Node.watchDecide, h, hraise, if_true]
  rw [silenceRestart_eq]
  simp

theorem watchDecide_of_calm {n : Node} (h : n.pc.power = .standby) (hraise : n.pc.watchRaise = false) :
    n.watchDecide = (n.withCu { st := .off, holder := none, waiting := [], request := none, injection := .off
                                heldInjection := none, trim := n.cu.trim }).withPc { n.pc with
      watchTimer := if n.cfg.watchInterval = 0 then none else some (n.now + n.cfg.watchInterval * 1000000) } := by
  have hdecide : n.watchDecide = n.powerDown.startWatchTimer := by
    simp only [Node.watchDecide, h, hraise, Bool.false_eq_true, if_false]
  rw [hdecide]
  rfl

/-- R123: the channels of a watch wake. -/
theorem watchWake_channels {n : Node} (h : n.eq.st = .disabled) :
    (n.eqWake true).eq.st = .safeStop ∧ (n.eqWake true).eq.channels = n.eq.channels.map fun c => c.woken := by
  have hst : (n.restartFrame (Node.wakeState true n.eq.preStandby)).eq.st = .safeStop := by
    rw [Node.restartFrame_eq]
    rfl
  rw [Node.eqWake_eq h]
  refine ⟨hst, ?_⟩
  have hnot : ¬((n.restartFrame (Node.wakeState true n.eq.preStandby)).eq.st = .running) := by
    rw [hst]
    decide
  simp only [restartFrame_channels, hnot, false_and, if_false]

/-- Settles O45: the pass's start, its samples, its end by the power state and the watch-raise mark, its steps, and the
wake into SAFE_STOP. -/
theorem watchPassesMeasureAndDecide : Obligations.WatchPassesMeasureAndDecide := by
  refine ⟨fun s t hat hdue => ?starts, fun s v reading w src hst hdue hhold hw hstage => ?sample,
    fun n w steps hw => ?steps, fun n h => ?wake⟩
  case starts =>
    intro pass
    rw [exec_watchTimerExpiry hat hdue, Node.watchPassStart, powerUp_eq]
    rfl
  case sample =>
    intro m written ended final woken
    have hpass : m.pc.watchPass = some w := by simpa [m] using hw
    have hcfg : m.cfg = s.cfg := by simp [m]
    have hnow : m.now = v.endsAt := by simp [m]
    have hwritten : m.watchWritten w src (v.sample reading) = written := by
      rw [Node.watchWritten, hcfg]
    have hexec : exec (.conversionComplete reading) s = s.ends (if src = 21 then final.watchDecide
        else written.watchStep (afterFirst src (watchOrder w.n))) := by
      rw [exec_conversionComplete hst hdue reading, deliver_of_watch ((converted_holder _ _).trans hhold),
        watchSample_eq hpass hstage, hwritten]
      rfl
    have hworks : m.Works final := by
      have hfinal : final = (m.watchWritten w src (v.sample reading)).watchEnded w.pass := by
        rw [hwritten]
        rfl
      rw [hfinal]
      exact .trans (watchWritten_works m w src _) (watchEnded_works _ w.pass)
    have hpower : final.pc.power = s.pc.power := hworks.power_eq.1.trans (by simp [m])
    have hfcfg : final.cfg = s.cfg := hworks.cfg_ss.1.trans hcfg
    have hfnow : final.now = v.endsAt := hworks.now_eq.trans hnow
    refine ⟨fun hmore => ?_, fun hlast hstandby hraise => ?_, fun hlast hstandby hcalm => ?_, fun hlast hactive => ?_⟩
    · rw [hexec, if_neg hmore]
      rfl
    · rw [hexec, if_pos hlast, watchDecide_of_raise (hpower.trans hstandby) hraise, hfcfg]
    · rw [hexec, if_pos hlast, watchDecide_of_calm (hpower.trans hstandby) hcalm, hfcfg, hfnow]
    · rw [hexec, if_pos hlast, watchDecide_of_active (hpower.trans hactive)]
  case steps =>
    intro runs
    have hruns : n.watchRuns = runs := funext fun src => watchRuns_eq n src
    rw [← hruns]
    exact ⟨fun src hfind => watchStep_of_find hw hfind, fun hfind => watchStep_of_none hfind⟩
  case wake =>
    obtain ⟨hst, hchannels⟩ := watchWake_channels h
    have hwake := Node.eqWake_eq h true
    have hrestart := Node.restartFrame_eq n (Node.wakeState true n.eq.preStandby)
    have hquiet : (n.restartFrame (Node.wakeState true n.eq.preStandby)).eq.quiet = n.eq.quiet := by
      rw [hrestart]
      rfl
    exact ⟨hst, congrArg Equalizer.preStandby hwake,
      (congrArg Equalizer.slot hwake).trans (congrArg Equalizer.slot hrestart),
      (congrArg Equalizer.slotEnd hwake).trans (congrArg Equalizer.slotEnd hrestart),
      (congrArg Equalizer.frameMs hwake).trans (congrArg Equalizer.frameMs hrestart),
      (congrArg Equalizer.quiet hwake).trans hquiet, hchannels⟩

end Sys2Proof.Machine
end

section
/-! SUPPORT. Reset, break and loss of supply (R191, R170, R189). -/

namespace Sys2Proof.Machine

/-- An event from outside, `dt` after the last, when nothing happens of itself before it. -/
theorem State.onNode_outside {s : State} {dt : Nat} (h : s.Calm dt) (act : Node → Node) :
    s.onNode (Node.outside dt act) = s.ends (act (s.withNow (s.now + dt))) := by
  rw [State.onNode_eq, Node.outside_of_calm h, State.ends]

/-- R191: start-up that begins with the converter OFF. -/
theorem beginStartUp_eq {n : Node} (h : n.cu.st = .off) : n.beginStartUp
    = ((n.withPc { n.pc with phase := .loading (n.now + 5000) }).withLi (receiversStarted n.li n.now)).withCu
        { n.cu with st := .powering (n.now + 200) } := by
  have hoff : (n.startReceivers.withPc { n.pc with phase := .loading (n.now + Config.loadTime) }).cu.st = .off := h
  rw [Node.beginStartUp, powerUp_eq, if_pos hoff]
  rfl

/-- R170: the row of BREAK_DRIVE_END at the drive's end. -/
theorem exec_breakDriveEnd {s : State} {t : Nat} (hphase : s.pc.phase = .breakDrive t) (hdue : s.Due t) (high : Bool) :
    exec (.breakDriveEnd high) s = s.ends (if high then (s.withNow t).beginStartUp
      else (s.withNow t).withPc { s.pc with phase := .breakWait }) := by
  have hrow : s.breakDriveEnd high = (if high then (s.withNow t).beginStartUp
      else (s.withNow t).withPc { s.pc with phase := .breakWait }).finish := by
    simp only [Node.breakDriveEnd, hphase, Node.timed_of_due hdue]
    rfl
  exact (State.onNode_eq s _).trans (by rw [hrow, State.ends])

/-- Settles O46: the events that reset, the two ends of a break, and the values a reset leaves. -/
theorem resetsAndBreaksBeginStartUp : Obligations.ResetsAndBreaksBeginStartUp := by
  refine ⟨fun s dt hcalm => ?events, fun s t hphase hdue => ⟨exec_breakDriveEnd hphase hdue false, fun hoff => ?drive⟩,
    fun t id image cause phase => ?values⟩
  case events =>
    intro t cold on
    have hnow : (s.elapse dt).now = t := by
      rw [Node.elapse_of_calm hcalm]
      rfl
    refine ⟨?_, fun hrec hlow => ?_, fun hshort => ?_, fun hpowered => ?_, fun hwait hoff => ?_⟩
    · have hon : (s.withNow t).powerOnReset = on.withCu { on.cu with st := .powering (t + 200) } := by
        rw [Node.powerOnReset, powerUp_eq]
        rfl
      exact (State.onNode_outside hcalm _).trans (by rw [← hon])
    · have hrow : s.breakDetected dt = s.outside dt Node.breakReset := by
        rw [Node.breakDetected, hnow, if_pos]
        simp only [hrec, Bool.true_and, decide_eq_true_eq]
        exact hlow
      refine (State.onNode_eq s _).trans ?_
      rw [hrow]
      exact State.onNode_outside hcalm _
    · refine State.onNode_of_same ?_
      rw [Node.breakDetected, hnow, if_neg]
      simp only [Bool.and_eq_true, decide_eq_true_eq, not_and, Nat.not_le]
      exact fun _ => hshort
    · have hrow : s.powerLoss dt = s.outside dt Node.supplyLost := by
        rw [Node.powerLoss, if_neg hpowered]
      refine (State.onNode_eq s _).trans ?_
      rw [hrow]
      exact State.onNode_outside hcalm _
    · have hrow : s.breakRelease dt = s.outside dt Node.beginStartUp := by
        rw [Node.breakRelease, if_pos hwait]
      refine (State.onNode_eq s _).trans ?_
      rw [hrow]
      exact (State.onNode_outside hcalm _).trans (congrArg s.ends (beginStartUp_eq hoff))
  case drive =>
    exact (exec_breakDriveEnd hphase hdue true).trans (congrArg s.ends (beginStartUp_eq hoff))
  case values =>
    intro n lane
    have hrecs : ∀ r ∈ n.lm.recs, r.st = .normal ∧ r.overCount = 0 ∧ r.underCount = 0 ∧ r.releaseCount = 0 := by
      intro r hr
      obtain ⟨src, -, rfl⟩ := List.mem_map.mp hr
      exact ⟨rfl, rfl, rfl, rfl⟩
    refine ⟨rfl, rfl, rfl, rfl, rfl, rfl, rfl, rfl, rfl, rfl, rfl, rfl, rfl, rfl, rfl, hrecs, rfl, rfl, rfl, rfl, rfl,
      rfl, rfl, rfl, rfl, rfl, rfl, rfl, rfl, rfl, rfl, rfl, rfl, rfl, rfl, rfl, rfl, rfl, rfl, rfl, rfl, rfl, rfl⟩

end Sys2Proof.Machine
end

section
/-! SUPPORT. The Fault Table's raise and clear (R81, R82, R84), said once. -/

namespace Sys2Proof.Machine

namespace FaultTable

/-- R80: no entry of the pair. -/
theorem find_eq_none_iff (t : FaultTable) (k : FaultKind) (src : Nat) :
    t.find k src = none ↔ ∀ e ∈ t.entries, ¬(e.kind = k ∧ e.source = src) := by
  simp [find]

theorem exists_find_iff (t : FaultTable) (k : FaultKind) (src : Nat) :
    (∃ e, t.find k src = some e) ↔ ∃ e ∈ t.entries, e.kind = k ∧ e.source = src := by
  rw [← Option.ne_none_iff_exists', Ne, find_eq_none_iff]
  simp

/-- R84: a table with a free place takes the new entry at its end. -/
theorem create_of_room {t : FaultTable} (h : t.entries.length < 32) (e : FaultEntry) :
    t.create e = { t with entries := t.entries ++ [e] } := by
  have hroom : t.makeRoom = t := if_pos h
  simp only [create, hroom]
  exact if_pos h

/-- R84: the oldest CLEARED entry is the first one. -/
theorem dropOldestCleared_eq {l : List FaultEntry} {e : FaultEntry} (h : l.find? (fun e => !e.active) = some e) :
    dropOldestCleared l = l.erase e := by
  induction l with
  | nil => cases h
  | cons x l ih =>
    cases hx : x.active with
    | false =>
      have hxe : x = e := by simpa [hx] using h
      rw [hxe] at hx
      simp [dropOldestCleared, hxe, hx]
    | true =>
      have hl : l.find? (fun e => !e.active) = some e := by simpa [hx] using h
      have hne : x ≠ e := by
        rintro rfl
        simpa [hx] using List.find?_some hl
      simp [dropOldestCleared, hx, ih hl, hne]

/-- R84: a full table loses its oldest CLEARED entry to the new one. -/
theorem create_of_full {t : FaultTable} (h : t.entries.length = 32) {e : FaultEntry}
    (he : t.entries.find? (fun e => !e.active) = some e) (x : FaultEntry) :
    t.create x = { entries := t.entries.erase e ++ [x], evictions := min (t.evictions + 1) 255 } := by
  have hmem : e ∈ t.entries := List.mem_of_find?_eq_some he
  have hcleared : (t.entries.any fun e => !e.active) = true :=
    List.any_eq_true.mpr ⟨e, hmem, by simpa using List.find?_some he⟩
  have hfull : ¬t.entries.length < Config.faultCap := by
    rw [h]
    decide
  have hroom : t.makeRoom = { entries := t.entries.erase e, evictions := min (t.evictions + 1) 255 } := by
    rw [makeRoom, if_neg hfull, if_pos hcleared, dropOldestCleared_eq he]
    rfl
  have hfits : (t.entries.erase e).length < Config.faultCap := by
    rw [List.length_erase_of_mem hmem, h]
    decide
  simp only [create, hroom, if_pos hfits]

theorem raise_of_new {t : FaultTable} {k : FaultKind} {src : Nat}
    (h : ∀ e ∈ t.entries, ¬(e.kind = k ∧ e.source = src)) (pass : Nat) (value : Option Int) :
    t.raise k src pass value = t.create {
      kind := k, source := src, active := true, count := 1, first := pass, last := pass, value := value } := by
  simp only [raise, (t.find_eq_none_iff k src).mpr h]

theorem raise_of_known {t : FaultTable} {k : FaultKind} {src : Nat} (h : ∃ e ∈ t.entries, e.kind = k ∧ e.source = src)
    (pass : Nat) (value : Option Int) : t.raise k src pass value = { t with
      entries := t.entries.map fun e => if e.kind = k ∧ e.source = src
        then { e with
          active := true
          count := if e.active = true then e.count else min (e.count + 1) 255
          last := pass
          value := value } else e } := by
  obtain ⟨e, he⟩ := (t.exists_find_iff k src).mpr h
  simp only [raise, he, modify, Bool.and_eq_true, beq_iff_eq]
  rfl

/-- R81: a raise is news when the pair has no ACTIVE entry. -/
theorem isNews_iff (t : FaultTable) (k : FaultKind) (src : Nat) :
    t.isNews k src = true ↔ ¬∃ e ∈ t.entries, e.kind = k ∧ e.source = src ∧ e.active = true := by
  rw [isNews, Bool.not_eq_true', ← Bool.not_eq_true, Node.isActive_iff]
  exact not_congr (exists_congr fun e => and_congr_right fun _ => by rw [and_comm, and_assoc])

end FaultTable

/-- R81, R83: a raise of the node, with what it hands on. -/
theorem raiseFault_eq (n : Node) (k : FaultKind) (src pass : Nat) (v : Option Int) : n.raiseFault k src pass v
    = ((n.withFt (n.ft.raise k src pass v)).withCh { n.ch with reasons := { n.ch.reasons with
        faultNew := n.ch.reasons.faultNew || (n.ft.isNews k src && n.cfg.alertEnable) } }).withPc
      { n.pc with watchRaise := n.pc.watchRaise || (n.ft.isNews k src && n.pc.watchPass.isSome) } := by
  unfold Node.raiseFault Node.noteNews Node.addReason
  cases hnews : n.ft.isNews k src
  · simp
    rfl
  · cases halert : n.cfg.alertEnable <;> cases hpass : n.pc.watchPass.isSome <;> simp [halert, hpass] <;> rfl

/-- Settles O50: a clear; a raise of a new pair with room or without and of a known pair; what a raise hands on. -/
theorem raisesAndClearsFollowTheirRules : Obligations.RaisesAndClearsFollowTheirRules := by
  refine ⟨fun n k src => ?clear, fun t k src pass value => ?raise, fun n k src pass value => ?handed⟩
  case clear => rw [Node.clearFault, FaultTable.clear_entries]
  case raise =>
    intro new
    refine ⟨fun hnew => ⟨fun hroom => ?_, fun hfull e he => ?_⟩, fun hknown => FaultTable.raise_of_known hknown pass value⟩
    · rw [FaultTable.raise_of_new hnew, FaultTable.create_of_room hroom]
    · rw [FaultTable.raise_of_new hnew, FaultTable.create_of_full hfull he]
  case handed =>
    intro m news
    refine ⟨fun hold => ?_, fun hnews => ?_⟩
    · have hflag : ¬n.ft.isNews k src = true := fun h => hold ((FaultTable.isNews_iff _ _ _).mp h)
      rw [Node.raiseFault, if_neg hflag]
    · have hflag : n.ft.isNews k src = true := (FaultTable.isNews_iff _ _ _).mpr hnews
      rw [raiseFault_eq, hflag, Bool.true_and, Bool.true_and]

end Sys2Proof.Machine
end

section
/-! SUPPORT. Results and their judgement (R45, R46, R64 to R70). -/

namespace Sys2Proof.Machine

theorem isOver_iff (c : LimitCfg) (v : Int) : c.isOver v = true ↔ ∃ u ∈ c.upper, u < v := by
  unfold LimitCfg.isOver
  cases c.upper <;> simp

theorem isUnder_iff (c : LimitCfg) (v : Int) : c.isUnder v = true ↔ ∃ l ∈ c.lower, v < l := by
  unfold LimitCfg.isUnder
  cases c.lower <;> simp

/-- R65 to R67: a judgement, by the limit state. -/
theorem judge_of_normal {r : LimitRec} (h : r.st = .normal) (v : Int) : r.judge v = r.judgeNormal v := by
  simp only [LimitRec.judge, h]

theorem judge_of_high {r : LimitRec} (h : r.st = .high) (v : Int) :
    r.judge v = r.judgeOut (r.cfg.isOver v) .raiseHigh .clearHigh := by
  simp only [LimitRec.judge, h]

theorem judge_of_low {r : LimitRec} (h : r.st = .low) (v : Int) :
    r.judge v = r.judgeOut (r.cfg.isUnder v) .raiseLow .clearLow := by
  simp only [LimitRec.judge, h]

theorem judgeOut_stays (r : LimitRec) (again gone : Verdict) :
    r.judgeOut true again gone = ({ r with releaseCount := 0 }, again) := rfl

theorem judgeOut_released {r : LimitRec} (h : r.cfg.p ≤ r.releaseCount + 1) (again gone : Verdict) :
    r.judgeOut false again gone
      = ({ r with st := .normal, overCount := 0, underCount := 0, releaseCount := 0 }, gone) := by
  simp [LimitRec.judgeOut, h]

theorem judgeOut_counted {r : LimitRec} (h : r.releaseCount + 1 < r.cfg.p) (again gone : Verdict) :
    r.judgeOut false again gone = ({ r with releaseCount := r.releaseCount + 1 }, .nothing) := by
  simp [LimitRec.judgeOut, Nat.not_le.mpr h]

theorem recordValue_eq (n : Node) (src : Nat) : n.recordValue src = (findRecord n.rt src).elim 0 fun w => w.value := by
  unfold Node.recordValue
  cases findRecord n.rt src <;> rfl

/-- R69: when the plausibility check has all it needs. -/
theorem passComplete_iff (n : Node) : n.passComplete = true ↔ n.lm.popMark = false ∧ 19 ∈ n.lm.passSources
    ∧ ∀ k ∈ List.range' 1 n.cfg.population, k ∈ n.lm.passSources := by
  simp only [Node.passComplete, Bool.and_eq_true, Bool.not_eq_true', List.contains_iff_mem, List.all_eq_true, and_assoc]
  exact Iff.rfl

/-- Settles O51: a judgement by state and value, what it hands on, a write, the plausibility check, and the kinds. -/
theorem resultsAreWrittenAndJudged : Obligations.ResultsAreWrittenAndJudged := by
  refine ⟨fun r v => ?judged, fun n src pass v r hr => ?applied, fun n w => ?written, fun n pass => ?plausible,
    fun k hlow hhigh => ?cells, fun k hlow hhigh => ?aux, rfl, rfl, rfl, rfl, rfl, rfl⟩
  case judged =>
    intro above below enter
    have habove : r.cfg.isOver v = true ↔ above := isOver_iff _ _
    have hbelow : r.cfg.isUnder v = true ↔ below := isUnder_iff _ _
    refine ⟨fun h ha hp => ?_, fun h ha hp => ?_, fun h ha hb hp => ?_, fun h ha hb hp => ?_, fun h ha hb => ?_,
      fun h ha => ?_, fun h hb => ?_, fun h ha hp => ?_, fun h hb hp => ?_, fun h hp => ?_⟩
    · rw [judge_of_normal h, LimitRec.judgeNormal, if_pos (habove.mpr ha), if_pos hp]
    · rw [judge_of_normal h, LimitRec.judgeNormal, if_pos (habove.mpr ha), if_neg (by omega)]
    · rw [judge_of_normal h, LimitRec.judgeNormal, if_neg (mt habove.mp ha), if_pos (hbelow.mpr hb), if_pos hp]
    · rw [judge_of_normal h, LimitRec.judgeNormal, if_neg (mt habove.mp ha), if_pos (hbelow.mpr hb), if_neg (by omega)]
    · rw [judge_of_normal h, LimitRec.judgeNormal, if_neg (mt habove.mp ha), if_neg (mt hbelow.mp hb)]
    · rw [judge_of_high h, habove.mpr ha, judgeOut_stays]
    · rw [judge_of_low h, hbelow.mpr hb, judgeOut_stays]
    · rw [judge_of_high h, Bool.eq_false_iff.mpr (mt habove.mp ha), judgeOut_released hp]
    · rw [judge_of_low h, Bool.eq_false_iff.mpr (mt hbelow.mp hb), judgeOut_released hp]
    · rcases h with ⟨h, ha⟩ | ⟨h, hb⟩
      · rw [judge_of_high h, Bool.eq_false_iff.mpr (mt habove.mp ha), judgeOut_counted hp]
      · rw [judge_of_low h, Bool.eq_false_iff.mpr (mt hbelow.mp hb), judgeOut_counted hp]
  case applied =>
    intro m
    have hm : n.withLm (n.lm.modify src fun r => (r.judge v).1) = m := by
      simp only [LimitMonitor.modify, beq_iff_eq]
      rfl
    have hfind : n.lm.find src = some r := hr
    cases hverdict : (r.judge v).2 <;> simp only [Node.judge, hfind, hm, Node.applyVerdict, hverdict]
  case written =>
    have hrecords : (modifyRecord n.rt w.source fun r => r.write w n.seq.epoch) = n.rt.map fun r =>
        if r.source = w.source then r.write w n.seq.epoch else r := by
      simp only [modifyRecord, beq_iff_eq]
    have hnote : n.lm.note w.source = { n.lm with passSources := if w.source ∈ n.lm.passSources then n.lm.passSources
        else w.source :: n.lm.passSources } := by
      simp only [LimitMonitor.note, List.contains_iff_mem]
      split <;> rfl
    simp only [Node.writeResult, hrecords, Node.withRt_lm, hnote] <;> rfl
  case plausible =>
    intro complete value d
    have hd : n.sumDifference = d := by
      simp only [Node.sumDifference, recordValue_eq]
      rfl
    refine ⟨fun hno => ?_, fun hyes hbig => ?_, fun hyes hsmall => ?_⟩
    · rw [Node.plausibility, if_neg (mt (passComplete_iff n).mp hno)]
    · rw [Node.plausibility, if_pos ((passComplete_iff n).mpr hyes), hd, if_pos hbig]
    · rw [Node.plausibility, if_pos ((passComplete_iff n).mpr hyes), hd, if_neg (Nat.not_lt.mpr hsmall)]
  case cells => simp [highKind, lowKind, hhigh]
  case aux =>
    have hcell : ¬k ≤ 14 := by omega
    simp [highKind, lowKind, hcell, hhigh]

end Sys2Proof.Machine
end

section
/-! SUPPORT. What a raise leaves of the other pairs' ACTIVE entries (R81, R84). -/

namespace Sys2Proof.Machine

namespace FaultTable

theorem mem_dropOldestCleared {l : List FaultEntry} {e : FaultEntry} (hactive : e.active = true) :
    e ∈ dropOldestCleared l ↔ e ∈ l := by
  induction l with
  | nil => exact Iff.rfl
  | cons x l ih =>
    cases hx : x.active with
    | true => simp [dropOldestCleared, hx, ih]
    | false =>
      have hne : e ≠ x := by
        rintro rfl
        simp [hx] at hactive
      simp [dropOldestCleared, hx, hne]

theorem mem_makeRoom {t : FaultTable} {e : FaultEntry} (hactive : e.active = true) :
    e ∈ t.makeRoom.entries ↔ e ∈ t.entries := by
  unfold makeRoom
  split
  · exact Iff.rfl
  · split
    · exact mem_dropOldestCleared hactive
    · exact Iff.rfl

/-- R84: a creation leaves the other ACTIVE entries. -/
theorem mem_create {t : FaultTable} {e x : FaultEntry} (hactive : e.active = true) (hne : e ≠ x) :
    e ∈ (t.create x).entries ↔ e ∈ t.entries := by
  unfold create
  dsimp only
  split
  · simp [mem_makeRoom hactive, hne]
  · exact mem_makeRoom hactive

/-- R81: a raise leaves the ACTIVE entries of the other pairs. -/
theorem mem_raise {t : FaultTable} {k : FaultKind} {src : Nat} {e : FaultEntry} (hactive : e.active = true)
    (hother : ¬(e.kind = k ∧ e.source = src)) (pass : Nat) (value : Option Int) :
    e ∈ (t.raise k src pass value).entries ↔ e ∈ t.entries := by
  by_cases hknown : ∃ e ∈ t.entries, e.kind = k ∧ e.source = src
  · rw [raise_of_known hknown]
    simp only [List.mem_map]
    refine ⟨fun ⟨x, hx, hxe⟩ => ?_, fun he => ⟨e, he, if_neg hother⟩⟩
    split at hxe
    · rename_i hpair
      exact absurd (hxe ▸ hpair) hother
    · exact hxe ▸ hx
  · rw [raise_of_new (by simpa using hknown)]
    refine mem_create hactive ?_
    rintro rfl
    exact hother ⟨rfl, rfl⟩

theorem any_raise {t : FaultTable} {k : FaultKind} {src : Nat} {p : FaultEntry → Bool}
    (hp : ∀ e, p e = true → e.active = true ∧ ¬(e.kind = k ∧ e.source = src)) (pass : Nat) (value : Option Int) :
    (t.raise k src pass value).entries.any p = t.entries.any p := by
  refine Bool.eq_iff_iff.mpr ?_
  simp only [List.any_eq_true]
  refine exists_congr fun e => and_congr_left fun he => ?_
  obtain ⟨hactive, hother⟩ := hp e he
  exact mem_raise hactive hother pass value

end FaultTable

/-- R73: a kind of fault that no inhibit asks for. -/
def FaultKind.Harmless (k : FaultKind) : Prop := k ≠ .sumMismatch ∧ k ≠ .refFault ∧ k ≠ .lineOpen

/-- R73: a harmless fault leaves the inhibits as they were. -/
theorem inhibited_raise {n m : Node} (hcfg : m.cfg = n.cfg) (hlm : m.lm = n.lm) {k : FaultKind} (hk : k.Harmless)
    {src pass : Nat} {value : Option Int} (hft : m.ft = n.ft.raise k src pass value) (c : Nat) :
    m.inhibited c = n.inhibited c := by
  obtain ⟨hsum, href, hline⟩ := hk
  have hpair (kind : FaultKind) (hne : k ≠ kind) (j : Nat) : m.ft.isActive kind j = n.ft.isActive kind j := by
    rw [hft]
    refine FaultTable.any_raise (fun e he => ?_) pass value
    simp only [Bool.and_eq_true, beq_iff_eq] at he
    obtain ⟨⟨hkind, -⟩, hactive⟩ := he
    exact ⟨hactive, fun h => hne (h.1.symm.trans hkind)⟩
  have hopen : m.lineInhibits c = n.lineInhibits c := by
    unfold Node.lineInhibits
    rw [hft]
    refine FaultTable.any_raise (fun e he => ?_) pass value
    simp only [Bool.and_eq_true, beq_iff_eq] at he
    obtain ⟨⟨hkind, hactive⟩, -⟩ := he
    exact ⟨hactive, fun h => hline (h.1.symm.trans hkind)⟩
  simp only [Node.inhibited, Node.inhibitsAll, Node.auxHeat, hpair _ hsum, hpair _ href, hopen, hcfg, hlm]

end Sys2Proof.Machine
end

section
/-! SUPPORT. Start-up (R188, R191): the node begun, block by block, and the autostart (R40). -/

namespace Sys2Proof.Machine

/-- Two nodes that agree block by block. -/
theorem Node.eq_of_blocks {n m : Node} (hnow : n.now = m.now) (hid : n.identity = m.identity) (hcfg : n.cfg = m.cfg)
    (hcu : n.cu = m.cu) (hseq : n.seq = m.seq) (hrt : n.rt = m.rt) (hlm : n.lm = m.lm) (hft : n.ft = m.ft)
    (heq : n.eq = m.eq) (hmu : n.mu = m.mu) (hli : n.li = m.li) (hch : n.ch = m.ch) (hss : n.ss = m.ss)
    (hpc : n.pc = m.pc) : n = m := by
  cases n
  cases m
  simp_all

theorem Equalizer.eq_of_fields {e d : Equalizer} (hst : e.st = d.st) (hframe : e.frameMs = d.frameMs)
    (hslot : e.slot = d.slot) (hend : e.slotEnd = d.slotEnd) (hchannels : e.channels = d.channels)
    (hquiet : e.quiet = d.quiet) (hpre : e.preStandby = d.preStandby) : e = d := by
  cases e
  cases d
  simp_all

/-- R97, R110: the Equalizer started at slot 0 with staged values applied and its state adjusted. -/
theorem restartFrame_adjusted (m : Node) :
    let owed : Bool := m.eq.channels.any fun c => decide (0 < c.woken.budget)
    let st : EqState := if m.eq.st = .idle ∨ m.eq.st = .running then (if owed then .running else .idle) else m.eq.st
    m.restartFrame Equalizer.adjusted = m.withEq { m.eq with
      st := st
      frameMs := m.cfg.eqFrame
      slot := 0
      slotEnd := some (m.now + m.cfg.eqFrame * 1000 / 64)
      channels := m.eq.channels.map fun c =>
        if st = .running ∧ c.num % 2 = 1 ∧ 0 < c.woken.duty ∧ 0 < c.woken.budget ∧ m.eq.quiet.holds c.num = false
            ∧ m.inhibited c.num = false
        then { c.woken with closed := true } else c.woken } := by
  intro owed st
  have hrestart := Node.restartFrame_eq m Equalizer.adjusted
  have howed : (m.eq.frameTaken m.cfg.eqFrame).owes = owed := by
    rw [Equalizer.owes, frameTaken_woken, List.any_map]
    rfl
  have hst : (m.restartFrame Equalizer.adjusted).eq.st = st := by
    have hadjusted : (m.restartFrame Equalizer.adjusted).eq.st = (m.eq.frameTaken m.cfg.eqFrame).adjusted :=
      congrArg Equalizer.st hrestart
    rw [hadjusted, Node.adjusted_eq, howed]
    rfl
  have hchannels := restartFrame_channels m Equalizer.adjusted
  rw [hst] at hchannels
  have hquiet : (m.restartFrame Equalizer.adjusted).eq.quiet = m.eq.quiet := by
    rw [hrestart]
    rfl
  have hpre : (m.restartFrame Equalizer.adjusted).eq.preStandby = m.eq.preStandby := by
    rw [hrestart]
    rfl
  have hframe : (m.restartFrame Equalizer.adjusted).eq.frameMs = m.cfg.eqFrame := congrArg Equalizer.frameMs hrestart
  have hslot : (m.restartFrame Equalizer.adjusted).eq.slot = 0 := congrArg Equalizer.slot hrestart
  have hend : (m.restartFrame Equalizer.adjusted).eq.slotEnd = some (m.now + m.cfg.eqFrame * 1000 / 64) :=
    congrArg Equalizer.slotEnd hrestart
  have hnode : m.restartFrame Equalizer.adjusted = m.withEq (m.restartFrame Equalizer.adjusted).eq := rfl
  rw [hnode]
  congr 1
  exact Equalizer.eq_of_fields hst hframe hslot hend hchannels hquiet hpre

/-- R188: a load of a valid image. -/
theorem applyLoad_of_image {n : Node} {im : Image} (h : n.ss.image = some im) : n.applyLoad
    = ((n.withCfg im.settings).loadLimits fun src => im.limits.getD (src - 1) (LimitCfg.factory src)).withCu
        { n.cu with trim := im.trim } := by
  simp only [Node.applyLoad, h]
  rfl

/-- R188: a load without a valid image. -/
theorem applyLoad_of_none {n : Node} (h : n.ss.image = none) : n.applyLoad
    = (((n.withCfg Settings.factory).loadLimits LimitCfg.factory).withCu
        { n.cu with trim := n.identity.factoryTrim }).raiseFault .storeInvalid 0 n.seq.passCounter none := by
  simp only [Node.applyLoad, h]
  rfl

/-- R191: a node started, from the node with the load applied. -/
theorem started_eq_of_load (n : Node) : n.started = (((n.applyLoad.withPc { n.applyLoad.pc with
    power := .active, phase := .complete }).restartFrame Equalizer.adjusted).silenceStarted n.applyLoad.cfg.silenceTimeout) := by
  have hstart : n.started = ((n.applyLoad.withPc { n.applyLoad.pc with
    power := .active, phase := .complete }).restartFrame Equalizer.adjusted).silenceRestart := rfl
  rw [hstart, silenceRestart_eq, restartFrame_adjusted]
  rfl

/-- R191: the node started on a valid image. -/
theorem started_of_image {n : Node} {im : Image} (h : n.ss.image = some im) (t : Nat) : (n.withNow t).started
    = n.begun t im.settings fun src => im.limits.getD (src - 1) (LimitCfg.factory src) := by
  rw [started_eq_of_load, applyLoad_of_image (n := n.withNow t) h, restartFrame_adjusted]
  have hnews : (decide (n.ss.image = none
      ∧ ¬∃ e ∈ n.ft.entries, e.kind = .storeInvalid ∧ e.source = 0 ∧ e.active = true)) = false := by
    simp [h]
  have hft : (n.ft.clear .linkSilent 0) = { n.ft with
      entries := n.ft.entries.map fun e => if e.kind = .linkSilent ∧ e.source = 0 then { e with active := false } else e } :=
    FaultTable.clear_entries _ _ _
  refine Node.eq_of_blocks rfl rfl rfl ?_ rfl rfl rfl ?_ rfl rfl rfl ?_ rfl ?_
  · simp only [Node.begun, h]
    rfl
  · simp only [Node.begun, h]
    exact hft.symm
  · simp only [Node.begun, hnews, Bool.false_and, Bool.or_false]
    rfl
  · simp only [Node.begun, hnews, Bool.false_and, Bool.or_false]
    rfl

/-- R191, R83: the node started without a valid image. -/
theorem started_of_none {n : Node} (h : n.ss.image = none) (t : Nat) :
    (n.withNow t).started = n.begun t Settings.factory LimitCfg.factory := by
  rw [started_eq_of_load, applyLoad_of_none (n := n.withNow t) h, raiseFault_eq, restartFrame_adjusted]
  have hnews : n.ft.isNews .storeInvalid 0 = (decide (n.ss.image = none
      ∧ ¬∃ e ∈ n.ft.entries, e.kind = .storeInvalid ∧ e.source = 0 ∧ e.active = true)) :=
    Bool.eq_iff_iff.mpr (by rw [FaultTable.isNews_iff, decide_eq_true_eq]; simp [h])
  refine Node.eq_of_blocks rfl rfl rfl ?_ rfl rfl rfl ?_ ?_ rfl rfl ?_ rfl ?_
  · simp only [Node.begun, h]
    rfl
  · simp only [Node.begun, h]
    exact (FaultTable.clear_entries _ _ _).symm
  · refine Equalizer.eq_of_fields rfl rfl rfl rfl (List.map_congr_left fun c _ => if_congr ?_ rfl rfl) rfl rfl
    refine and_congr_right' (and_congr_right' (and_congr_right' (and_congr_right' (and_congr_right' (Eq.congr_left ?_)))))
    refine inhibited_raise (n := ((n.withNow t).withCfg Settings.factory).loadLimits LimitCfg.factory)
      (k := .storeInvalid) (src := 0) (pass := n.seq.passCounter) (value := none) ?_ ?_ ⟨by decide, by decide, by decide⟩
      ?_ c.num
    · rfl
    · rfl
    · rfl
  · simp only [Node.begun, ← hnews]
    rfl
  · simp only [Node.begun, ← hnews]
    rfl

/-- R24: the node without what a lease request of the sequencer writes: the converter, the sequencer's step, the switches
and the quiet list. -/
def Node.seqBlank (n : Node) : Node :=
  ((n.withCu {
    st := .off, holder := none, waiting := [], request := none, injection := .off, heldInjection := none
    trim := n.cu.trim }).withSeq { n.seq with st := .stopped, stepIndex := none, acc := none }).withEq { n.eq with
    channels := [], quiet := QuietList.empty }

theorem convRequest_seqBlank (n : Node) (c : Client) (r : ConvRequest) : (n.convRequest c r).seqBlank = n.seqBlank := by
  unfold Node.convRequest Node.startConversion
  (repeat' split) <;> rfl

theorem seqConvert_seqBlank (n : Node) (x : Step) : (n.seqConvert x).seqBlank = n.seqBlank :=
  convRequest_seqBlank _ _ _

theorem seqBeginStep_seqBlank (n : Node) (i : Nat) : (n.seqBeginStep i).seqBlank = n.seqBlank := by
  unfold Node.seqBeginStep
  split
  · rfl
  · dsimp only
    split
    · split
      · exact seqConvert_seqBlank _ _
      · rfl
    · exact seqConvert_seqBlank _ _

/-- R24: a lease request of the sequencer leaves the rest of the node. -/
theorem leaseRequest_seqBlank (n : Node) : (n.leaseRequest .seq).seqBlank = n.seqBlank := by
  unfold Node.leaseRequest
  split
  · rfl
  · split
    · exact seqBeginStep_seqBlank _ _
    · rfl

/-- R40: an autostart that does not take place. -/
theorem autostart_of_not {n : Node} (h : n.cfg.autostart = false ∨ ∀ im ∈ n.ss.image, im.plan = none) :
    n.autostart = n := by
  unfold Node.autostart
  split
  · rfl
  · rename_i p hp
    obtain ⟨im, him, hplan⟩ := Option.bind_eq_some_iff.mp hp
    have hoff : n.cfg.autostart = false := h.resolve_right fun hnone => by
      rw [hnone im him] at hplan
      cases hplan
    rw [hoff]
    rfl

/-- R40: an autostart. -/
theorem autostart_of_plan {n : Node} (h : n.cfg.autostart = true) {im : Image} (him : n.ss.image = some im) {p : Plan}
    (hp : im.plan = some p) : n.autostart = (n.withSeq { n.seq with staged := some p }).passStart true := by
  simp only [Node.autostart, him, Option.bind_some, hp, h, if_true]

/-- R191: the row of START_UP_COMPLETE at the load's end. -/
theorem exec_startUpComplete {s : State} {t : Nat} (hphase : s.pc.phase = .loading t) (hdue : s.Due t) :
    exec .startUpComplete s = s.ends (s.withNow t).started.autostart := by
  have hrow : s.loadEnd = (s.withNow t).started.autostart.finish := by
    simp only [Node.loadEnd, hphase, Node.timed_of_due hdue]
    rfl
  exact (State.onNode_eq s _).trans (by rw [hrow, State.ends])

/-- R40: the node without what an autostart writes: also the plans, the results' fresh flags and the marks of R69. -/
def Node.passBlank (n : Node) : Node :=
  ((n.seqBlank.withSeq Sequencer.initial).withRt []).withLm { n.lm with passSources := [], popMark := false }

theorem leaseRequest_passBlank (n : Node) : (n.leaseRequest .seq).passBlank = n.passBlank := by
  have h : ∀ x : Node, x.passBlank = ((x.seqBlank.withSeq Sequencer.initial).withRt []).withLm
    { x.seqBlank.lm with passSources := [], popMark := false } := fun _ => rfl
  rw [h, leaseRequest_seqBlank, ← h]

/-- R24: a pass start before it asks for the lease. -/
def Node.passOpened (n : Node) : Node :=
  let n := n.advancePass
  let n := n.withLm n.lm.passStart
  n.withSeq { n.seq with st := .waitingCu, stepIndex := none, acc := none, passStart := some n.now, due := n.nextDue }

theorem passStart_eq (n : Node) (activation : Bool) : n.passStart activation
    = (if activation || n.activatesAtPassStart then n.activate else n).passOpened.leaseRequest .seq := rfl

theorem passOpened_passBlank (n : Node) : n.passOpened.passBlank = n.passBlank := by
  refine Node.eq_of_blocks ?_ ?_ ?_ ?_ ?_ ?_ ?_ ?_ ?_ ?_ ?_ ?_ ?_ ?_
  all_goals simp [Node.passOpened, Node.passBlank, Node.seqBlank, Node.advancePass, LimitMonitor.passStart]

theorem passStart_passBlank (n : Node) (activation : Bool) : (n.passStart activation).passBlank = n.passBlank := by
  rw [passStart_eq, leaseRequest_passBlank, passOpened_passBlank]
  split <;> rfl

theorem autostart_passBlank (n : Node) : n.autostart.passBlank = n.passBlank := by
  unfold Node.autostart
  split
  · rfl
  · split
    · exact passStart_passBlank _ _
    · rfl

/-- R40: what an autostart leaves. -/
theorem left_of_passBlank {n m : Node} (h : m.passBlank = n.passBlank) : m.now = n.now ∧ m.identity = n.identity
    ∧ m.ss = n.ss ∧ m.mu = n.mu ∧ m.cfg = n.cfg ∧ m.pc = n.pc ∧ m.cu.trim = n.cu.trim ∧ m.lm.recs = n.lm.recs
    ∧ m.ft = n.ft ∧ m.eq.slot = n.eq.slot ∧ m.eq.frameMs = n.eq.frameMs ∧ m.eq.slotEnd = n.eq.slotEnd
    ∧ m.li = n.li ∧ m.ch = n.ch :=
  ⟨(congrArg Node.now h :), (congrArg Node.identity h :), (congrArg Node.ss h :), (congrArg Node.mu h :),
    (congrArg Node.cfg h :), (congrArg Node.pc h :), (congrArg (fun n : Node => n.cu.trim) h :),
    (congrArg (fun n : Node => n.lm.recs) h :), (congrArg Node.ft h :), (congrArg (fun n : Node => n.eq.slot) h :),
    (congrArg (fun n : Node => n.eq.frameMs) h :), (congrArg (fun n : Node => n.eq.slotEnd) h :),
    (congrArg Node.li h :), (congrArg Node.ch h :)⟩

/-- R22, R24: the plan and the counters a lease request of the sequencer leaves. -/
theorem seq_of_seqBlank {n m : Node} (h : m.seqBlank = n.seqBlank) : m.seq.active = n.seq.active
    ∧ m.seq.staged = n.seq.staged ∧ m.seq.epoch = n.seq.epoch ∧ m.seq.passDone = n.seq.passDone
    ∧ m.seq.passStart = n.seq.passStart ∧ m.seq.passCounter = n.seq.passCounter :=
  ⟨(congrArg (fun n : Node => n.seq.active) h :), (congrArg (fun n : Node => n.seq.staged) h :),
    (congrArg (fun n : Node => n.seq.epoch) h :), (congrArg (fun n : Node => n.seq.passDone) h :),
    (congrArg (fun n : Node => n.seq.passStart) h :), (congrArg (fun n : Node => n.seq.passCounter) h :)⟩

theorem finish_cmdQueue (n : Node) : n.finish.ch.cmdQueue = n.ch.cmdQueue := by
  rw [Node.finish_ch, Node.queueAlert]
  split <;> rfl

/-- Settles O47: the load with an image or without, then the autostart or none. -/
theorem startUpLoadsAndBegins : Obligations.StartUpLoadsAndBegins := by
  intro s t hphase hdue cfg limits
  have hstarted : (s.withNow t).started = s.begun t cfg limits := by
    cases himage : s.ss.image with
    | some im =>
      have hcfg : cfg = im.settings := by simp only [cfg, himage]
      have hlimits : limits = fun src => im.limits.getD (src - 1) (LimitCfg.factory src) := by
        simp only [limits, himage]
      rw [started_of_image himage, hcfg, hlimits]
    | none =>
      have hcfg : cfg = Settings.factory := by simp only [cfg, himage]
      have hlimits : limits = LimitCfg.factory := by
        simp only [limits, himage]
      rw [started_of_none himage, hcfg, hlimits]
  have hexec : exec .startUpComplete s = s.ends (s.begun t cfg limits).autostart := by
    rw [exec_startUpComplete hphase hdue, hstarted]
  obtain ⟨hnow, hid, hss, hmu, hcfg, hpc, htrim, hrecs, hft, hslot, hframe, hend, hli, hch⟩ :=
    left_of_passBlank (autostart_passBlank (s.begun t cfg limits))
  have hoff (h : cfg.autostart = false ∨ ∀ im ∈ s.ss.image, im.plan = none) :
      (s.begun t cfg limits).autostart = s.begun t cfg limits := autostart_of_not (n := s.begun t cfg limits) h
  have hon (h : cfg.autostart = true) (im : Image) (him : im ∈ s.ss.image) (p : Plan) (hp : p ∈ im.plan) :=
    (autostart_of_plan (n := s.begun t cfg limits) h him hp).trans
      (passStart_of_activation (p := p) (n := (s.begun t cfg limits).withSeq { s.seq with staged := some p }) rfl)
  generalize (s.begun t cfg limits).autostart = X at *
  have hfli := X.finish_li
  rw [hli] at hfli
  have hfeq : X.finish.eq.slot = X.eq.slot ∧ X.finish.eq.frameMs = X.eq.frameMs ∧ X.finish.eq.slotEnd = X.eq.slotEnd := by
    rw [X.finish_eq]
    exact ⟨rfl, rfl, rfl⟩
  obtain ⟨hfslot, hfframe, hfend⟩ := hfeq
  refine ⟨{ s with toNode := X.finish }, hexec, rfl, X.finish_now.trans hnow, X.finish_identity.trans hid,
    X.finish_ss.trans hss, X.finish_mu.trans hmu, X.finish_cfg.trans hcfg,
    (congrArg PowerController.power (X.finish_pc.trans hpc) :), (congrArg PowerController.phase (X.finish_pc.trans hpc) :),
    (congrArg PowerController.cause (X.finish_pc.trans hpc) :), (congrArg ConversionUnit.trim X.finish_cu).trans htrim,
    (congrArg LimitMonitor.recs X.finish_lm).trans hrecs, X.finish_ft.trans hft, hfslot.trans hslot, hfframe.trans hframe,
    hfend.trans hend, congrArg LinkInterface.silence hfli, fun h => ?_, fun h im him p hp => ?_,
    (finish_cmdQueue X).trans (congrArg CommandHandler.cmdQueue hch :), (congrArg LinkInterface.laneRxS hfli :),
    (congrArg LinkInterface.laneRxN hfli :), (congrArg LinkInterface.laneTxS hfli :), (congrArg LinkInterface.laneTxN hfli :),
    (congrArg LinkInterface.north hfli :), (congrArg LinkInterface.south hfli :), fun h => ⟨?_, ?_⟩, fun h im him p hp => ?_⟩
  · exact X.finish_seq.trans (congrArg Node.seq (hoff h) :)
  · have hX := hon h im him p hp
    have hseq := leaseRequest_seqBlank _ |>.symm.trans (congrArg Node.seqBlank hX.symm) |>.symm
    obtain ⟨hactive, hstaged, hepoch, hdone, hstart, hcount⟩ := seq_of_seqBlank hseq
    have hfseq := X.finish_seq
    exact ⟨(congrArg Sequencer.active hfseq).trans hactive, (congrArg Sequencer.staged hfseq).trans hstaged,
      (congrArg Sequencer.epoch hfseq).trans hepoch, (congrArg Sequencer.passDone hfseq).trans hdone,
      (congrArg Sequencer.passStart hfseq).trans hstart, (congrArg Sequencer.passCounter hfseq).trans hcount⟩
  · exact X.finish_rt.trans (congrArg Node.rt (hoff h) :)
  · rw [hexec, hoff h]
  · rw [hexec, hon h im him p hp]
    rfl

end Sys2Proof.Machine
end

section
/-! SUPPORT. The lane receivers (R159 to R162): what a symbol does to its lane. -/

namespace Sys2Proof.Machine

/-- R159: the counters after a symbol. -/
theorem noiseCounted_eq (y : LineSymbol) (c : LaneCounters) :
    (if y.noisy then { c with noise := linkInc c.noise } else c)
      = if y.first = y.second ∧ y.second = y.third then c else { c with noise := min (c.noise + 1) 65535 } := by
  have hclean : y.noisy = true ↔ ¬(y.first = y.second ∧ y.second = y.third) := by
    rw [LineSymbol.noisy, Bool.not_eq_true', ← Bool.not_eq_true, Bool.and_eq_true, beq_iff_eq, beq_iff_eq]
  rw [if_congr hclean rfl rfl, ite_not]
  rfl

/-- R159, R170: what every symbol does, with the clock at its end. -/
theorem noteSymbol_eq (n : Node) (t : Nat) (k : Lane) (y : LineSymbol) : (n.withNow t).noteSymbol k y
    = (n.withNow t).withLi (afterSymbol n.li k t y (laneAfter (n.li.lane k) t y (n.li.lane k).rx)) := by
  cases k <;> simp only [Node.noteSymbol, Node.modifyLane, noiseCounted_eq] <;> rfl

theorem modifyLane_afterSymbol (n : Node) (k : Lane) (t : Nat) (y : LineSymbol) (l : LinkInterface) (x : LaneState)
    (g : LaneState → LaneState) :
    (n.withLi (afterSymbol l k t y x)).modifyLane k g = n.withLi (afterSymbol l k t y (g x)) := by
  cases k <;> rfl

theorem setReceiver_noteSymbol (n : Node) (t : Nat) (k : Lane) (y : LineSymbol) (rx : Receiver) :
    ((n.withNow t).noteSymbol k y).setReceiver k rx
      = (n.withNow t).withLi (afterSymbol n.li k t y (laneAfter (n.li.lane k) t y rx)) := by
  rw [noteSymbol_eq, Node.setReceiver, modifyLane_afterSymbol]
  rfl

theorem abandon_noteSymbol (n : Node) (t : Nat) (k : Lane) (y : LineSymbol) (rx : Receiver)
    (f : LaneCounters → LaneCounters) : ((n.withNow t).noteSymbol k y).abandon k rx f
      = (n.withNow t).withLi (afterSymbol n.li k t y { laneAfter (n.li.lane k) t y rx with
          counters := f (laneAfter (n.li.lane k) t y rx).counters }) := by
  rw [Node.abandon, setReceiver_noteSymbol, modifyLane_afterSymbol]
  rfl

/-- R161, R162: what a symbol is to a receiver, by its stop bit, its mark bit and its byte. -/
theorem take_of_low_stop {y : LineSymbol} (h : y.stops = false) (rx : Receiver) : rx.take y = .framing := by
  simp [Receiver.take, h]

theorem take_of_mark {y : LineSymbol} (hstops : y.stops = true) (hmark : y.marked = true) {rx : Receiver}
    (hrx : rx ≠ .hunt) : rx.take y = .truncated (.header y.byte none) := by
  have hin : rx.inFrame = true := by
    cases rx with
    | hunt => exact absurd rfl hrx
    | _ => rfl
  simp [Receiver.take, hstops, hmark, hin]

theorem take_of_plain {y : LineSymbol} (hstops : y.stops = true) (hmark : y.marked = false) (rx : Receiver) :
    rx.take y = rx.takeByte y.byte := by
  simp [Receiver.take, hstops, hmark]

theorem take_length {y : LineSymbol} (hstops : y.stops = true) (hmark : y.marked = false) (hlong : 96 < y.byte.toNat)
    (a k : Byte) : (Receiver.header a (some k)).take y = .length := by
  rw [take_of_plain hstops hmark]
  exact if_pos hlong

theorem take_crc {y : LineSymbol} (hstops : y.stops = true) (hmark : y.marked = false) (f : Frame) (high : Byte) :
    (Receiver.crc f.address f.kind f.payload (some high)).take y
      = if f.crc = high ++ y.byte then .good f else .badCrc := by
  rw [take_of_plain hstops hmark]
  rfl

theorem takeByte_length (a k b : Byte) : (Receiver.header a (some k)).takeByte b
    = if 96 < b.toNat then .length
      else if b.toNat = 0 then .taken (.crc a k [] none) else .taken (.payload a k b.toNat []) := rfl

/-- R161: a well-formed symbol that neither ends nor breaks a frame. -/
theorem take_of_receiverAfter {rx rx' : Receiver} {y : LineSymbol} (hstops : y.stops = true)
    (h : receiverAfter rx y.marked y.byte = some rx') :
    rx.take y = .taken rx' ∨ (rx.take y = .ignored ∧ rx' = rx) := by
  cases hmark : y.marked with
  | true =>
    rw [hmark] at h
    cases rx with
    | hunt =>
      left
      cases h
      simp [Receiver.take, hstops, hmark, Receiver.inFrame]
    | _ => simp [receiverAfter] at h
  | false =>
    rw [hmark] at h
    rw [take_of_plain hstops hmark]
    cases rx with
    | hunt =>
      cases h
      exact .inr ⟨rfl, rfl⟩
    | header a kind =>
      left
      cases kind with
      | none =>
        cases h
        rfl
      | some kind =>
        have hzero : y.byte = 0 ↔ y.byte.toNat = 0 := by
          rw [← BitVec.toNat_inj]
          rfl
        simp only [receiverAfter, hzero] at h
        split at h
        · rename_i hnone
          cases h
          rw [takeByte_length, if_neg (by omega), if_pos hnone]
        · rename_i hsome
          split at h
          · rename_i hshort
            cases h
            rw [takeByte_length, if_neg (by omega), if_neg hsome]
          · cases h
    | payload a kind len got =>
      left
      cases h
      simp only [Receiver.takeByte]
      split <;> rfl
    | crc a kind got high =>
      left
      cases high with
      | none =>
        cases h
        rfl
      | some high => cases h

/-- A symbol row at the symbol's end, when the receivers run and the lane hears the symbol. -/
theorem exec_laneRow {s : State} {dt : Nat} (hcalm : s.Calm dt) (hrec : s.pc.receiving = true) {k : Lane} {y : LineSymbol}
    (hears : (s.li.lane k).Hears (s.now + dt) y) {row : SymbolEvent → Option (Node → Node)} {act : Node → Node}
    (hrow : row ((s.li.lane k).rx.take y) = some act) :
    s.onNode (Node.laneRow dt k y row) = s.ends (act ((s.withNow (s.now + dt)).noteSymbol k y)) := by
  rw [State.onNode_eq, Node.laneRow_of_calm hcalm hrec hears hrow, State.ends]

/-- R170: how long the line has been low at the end of a symbol. -/
theorem lowTail_eq (y : LineSymbol) {i : Nat} (hi : i ≤ 11) (hlow : ∀ j < i, y.majority.getLsbD (10 - j) = false)
    (hhigh : i = 11 ∨ y.majority.getLsbD (10 - i) = true) : y.lowTail = i := by
  unfold LineSymbol.lowTail
  by_cases hall : i = 11
  · subst hall
    have hnone : (List.range 11).find? (fun i => y.majority.getLsbD (10 - i)) = none := by
      simpa using fun j hj => hlow j hj
    rw [hnone]
    rfl
  · have hsome : (List.range 11).find? (fun i => y.majority.getLsbD (10 - i)) = some i := by
      rw [List.find?_range_eq_some]
      exact ⟨hhigh.resolve_left hall, List.mem_range.mpr (by omega), fun j hj => by simp [hlow j hj]⟩
    rw [hsome]
    rfl

/-- Settles O48: a symbol not heard, each thing a symbol can be to a receiver, the low tail, and the gap. -/
theorem laneReceiversFollowTheirTable : Obligations.LaneReceiversFollowTheirTable := by
  refine ⟨fun y i hi => ?majority, fun s dt k y hcalm hrec => ?symbols, fun y i hi hlow hhigh => lowTail_eq y hi hlow hhigh,
    fun s k hrx hdue => ?gap⟩
  case majority =>
    simp [LineSymbol.majority]
  case symbols =>
    intro lane t becomes
    refine ⟨fun hdeaf row hrow => ?deaf, fun hears => ⟨fun rx hrx hstops => ?next, fun hstops => ?framing,
      fun hstops hmark hin => ?truncated, fun hstops hmark hlong => ?length, fun hstops hmark => ?crc⟩⟩
    case deaf =>
      have hsame : ∀ table, Node.laneRow dt k y table s.toNode = s.toNode :=
        fun table => Node.laneRow_of_unheard hcalm hdeaf table
      simp only [List.mem_cons, List.not_mem_nil, or_false] at hrow
      rcases hrow with rfl | rfl | rfl | rfl | rfl | rfl
      · exact State.onNode_of_same (hsame _)
      · exact State.onNode_of_same (hsame _)
      · exact State.onNode_of_same (hsame _)
      · exact State.onNode_of_same (hsame _)
      · exact State.onNode_of_same (hsame _)
      · refine State.onNode_of_same ?_
        unfold Node.readBack
        split
        · exact hsame _
        · rfl
    case next =>
      rcases take_of_receiverAfter hstops hrx with htake | ⟨htake, rfl⟩
      · refine (exec_laneRow hcalm hrec hears (act := Node.setReceiver k rx) ?_).trans ?_
        · rw [htake]
        · rw [setReceiver_noteSymbol]
      · refine (exec_laneRow hcalm hrec hears (act := id) ?_).trans ?_
        · rw [htake]
        · rw [id, noteSymbol_eq]
    case framing =>
      refine (exec_laneRow hcalm hrec hears (act := Node.abandon k .hunt fun c =>
        { c with framing := linkInc c.framing }) ?_).trans ?_
      · rw [take_of_low_stop hstops]
      · rw [abandon_noteSymbol]
        rfl
    case truncated =>
      refine (exec_laneRow hcalm hrec hears (act := Node.abandon k (.header y.byte none) fun c =>
        { c with truncated := linkInc c.truncated }) ?_).trans ?_
      · rw [take_of_mark hstops hmark hin]
      · rw [abandon_noteSymbol]
        rfl
    case length =>
      split
      · rename_i a kind hlane
        refine (exec_laneRow hcalm hrec hears (act := Node.abandon k .hunt fun c =>
          { c with length := linkInc c.length }) ?_).trans ?_
        · rw [show (s.li.lane k).rx = .header a (some kind) from hlane, take_length hstops hmark hlong]
        · rw [abandon_noteSymbol]
          rfl
      · trivial
    case crc =>
      split
      · rename_i a kind got high hlane
        intro hbad
        refine (exec_laneRow hcalm hrec hears (act := Node.abandon k .hunt fun c =>
          { c with crc := linkInc c.crc }) ?_).trans ?_
        · rw [show (s.li.lane k).rx = .crc a kind got (some high) from hlane,
            take_crc hstops hmark { address := a, kind := kind, payload := got }, if_neg hbad]
        · rw [abandon_noteSymbol]
          rfl
      · trivial
  case gap =>
    have hexpiry : (s.li.lane k).gapExpiry = some ((s.li.lane k).lastEnd + 100) := by
      have hin : (s.li.lane k).rx.inFrame = true := by
        cases h : (s.li.lane k).rx with
        | hunt => exact absurd h hrx
        | _ => rfl
      rw [LaneState.gapExpiry, if_pos hin]
      rfl
    have hrow : s.timed (s.li.lane k).gapExpiry (fun _ n =>
        n.abandon k .hunt fun c => { c with timeout := linkInc c.timeout })
          = ((s.withNow ((s.li.lane k).lastEnd + 100)).abandon k .hunt fun c =>
              { c with timeout := linkInc c.timeout }).finish := by
      rw [hexpiry, Node.timed_of_due hdue]
    refine (State.onNode_eq s _).trans ?_
    rw [hrow, State.ends]
    cases k <;> rfl

end Sys2Proof.Machine
end

section
/-! SUPPORT. Good frames (R163 to R165): where each goes. -/

namespace Sys2Proof.Machine

/-- R163, R165: a good frame for the command queue. -/
theorem enqueueCommand_eq (n : Node) (f : Frame) : n.enqueueCommand f = n.commanded f := by
  unfold Node.enqueueCommand Node.commanded
  by_cases hroom : n.ch.cmdQueue.length < 4
  · simp only [show n.ch.cmdQueue.length < Config.commandQueueCap from hroom, if_true]
    cases hpower : n.pc.power <;> simp only [hroom, if_true, silenceRestart_eq, Node.withCh_pc, hpower]
  · simp only [show ¬n.ch.cmdQueue.length < Config.commandQueueCap from hroom, if_false]
    cases hpower : n.pc.power <;> simp only [hroom, if_false, silenceRestart_eq, Node.withLi_pc, hpower] <;> rfl

theorem enqueueNorth_eq (n : Node) (f : Frame) : n.enqueueNorth f = n.passedNorth f := rfl

theorem enqueueSouth_eq (n : Node) (f : Frame) : n.enqueueSouth f = n.passedSouth f := rfl

/-- R163: the northbound decision, by the address. -/
theorem northbound_broadcast {n : Node} {f : Frame} (h : f.address.toNat = 63) :
    n.northbound f = (n.commanded f).passedNorth f := by
  simp only [Node.northbound, h, if_true, enqueueCommand_eq, enqueueNorth_eq]

theorem northbound_zero {n : Node} {f : Frame} (h : f.address.toNat = 0) : n.northbound f
    = if n.li.address = 0 then (if f.kind = 0x01 then n.commanded f else n.countMisaddressed)
      else n.passedNorth f := by
  simp [Node.northbound, h, enqueueCommand_eq, enqueueNorth_eq]

theorem northbound_node {n : Node} {f : Frame} (hlow : 1 ≤ f.address.toNat) (hhigh : f.address.toNat ≤ 60) :
    n.northbound f = if f.address.toNat = n.li.address then n.commanded f else n.passedNorth f := by
  have h63 : f.address.toNat ≠ 63 := by omega
  have h0 : f.address.toNat ≠ 0 := by omega
  simp only [Node.northbound, h63, h0, hhigh, if_false, if_true, enqueueCommand_eq, enqueueNorth_eq]

theorem northbound_other {n : Node} {f : Frame} (hhigh : 61 ≤ f.address.toNat) (hne : f.address.toNat ≠ 63) :
    n.northbound f = n.countMisaddressed := by
  have h0 : f.address.toNat ≠ 0 := by omega
  have h60 : ¬f.address.toNat ≤ 60 := by omega
  simp only [Node.northbound, hne, h0, h60, if_false]

/-- Settles O49: lane 0 by the address, lane 1 by the address, and the read-back lanes. -/
theorem goodFramesGoWhereTheirAddressSays : Obligations.GoodFramesGoWhereTheirAddressSays := by
  intro s dt k y f high hcalm hrec hears hrx hcrc hstops hmark m dropped a
  have htake : (s.li.lane k).rx.take y = .good f := by
    rw [hrx, take_crc hstops hmark, if_pos hcrc]
  have hhunt : ((s.withNow (s.now + dt)).noteSymbol k y).setReceiver k .hunt = m := setReceiver_noteSymbol _ _ _ _ _
  refine ⟨fun hk => ?south, fun hk => ?north, fun hk => ?back⟩
  case south =>
    subst hk
    have hexec : exec (.frameReceivedSouth dt y) s = s.ends (m.northbound f) := by
      refine (exec_laneRow hcalm hrec hears (act := fun n => (n.setReceiver .rxS .hunt).northbound f) ?_).trans ?_
      · rw [htake]
      · rw [hhunt]
    have haddress : m.li.address = s.li.address := rfl
    refine ⟨fun h => ?_, fun hlow hhigh hown => ?_, fun hlow hhigh hother => ?_, fun h hun hkind => ?_,
      fun h hun hkind => ?_, fun h has => ?_, fun h hne => ?_⟩
    · rw [hexec, northbound_broadcast h]
    · rw [hexec, northbound_node hlow hhigh, haddress, if_pos hown]
    · rw [hexec, northbound_node hlow hhigh, haddress, if_neg hother]
    · rw [hexec, northbound_zero h, haddress, if_pos hun, if_pos hkind]
    · rw [hexec, northbound_zero h, haddress, if_pos hun, if_neg hkind]
      rfl
    · rw [hexec, northbound_zero h, haddress, if_neg has]
    · rw [hexec, northbound_other h hne]
      rfl
  case north =>
    subst hk
    have hexec : exec (.frameReceivedNorth dt y) s = s.ends (m.southbound f) := by
      refine (exec_laneRow hcalm hrec hears (act := fun n => (n.setReceiver .rxN .hunt).southbound f) ?_).trans ?_
      · rw [htake]
      · rw [hhunt]
    refine ⟨fun h => ?_, fun h => ?_⟩
    · rw [hexec, Node.southbound, if_pos h, enqueueSouth_eq]
    · rw [hexec, Node.southbound, if_neg (by omega)]
      rfl
  case back =>
    have hrow : Node.readBack dt k y s.toNode = _ := if_pos hk
    refine (State.onNode_eq s _).trans ?_
    rw [hrow]
    refine (exec_laneRow hcalm hrec hears (act := Node.setReceiver k .hunt) ?_).trans ?_
    · rw [htake]
    · rw [hhunt]

end Sys2Proof.Machine
end

section
/-! SUPPORT. RESET_NODE (R179): the node the soft reset leaves, block by block. -/

namespace Sys2Proof.Machine

namespace Node

/-- R125: the Equalizer of a soft reset, its frame timer started at slot 0. -/
def eqFresh (n : Node) : Equalizer where
  st := .idle
  frameMs := n.cfg.eqFrame
  slot := 0
  slotEnd := some (n.now + n.cfg.eqFrame * 1000 / 64)
  channels := freshChannels n.now
  quiet := QuietList.empty
  preStandby := none

theorem eqCleared_restart {n : Node} : n.eqCleared.restartFrame Equalizer.adjusted = n.eqCleared.withEq n.eqFresh := by
  have howed : (n.eqCleared.eq.channels.any fun c => decide (0 < c.woken.budget)) = false := by
    rw [List.any_eq_false]
    intro c hc
    obtain ⟨k, -, rfl⟩ := List.mem_map.mp hc
    exact Bool.false_ne_true
  have hchannels : n.eqCleared.eq.channels.map (fun c => c.woken) = freshChannels n.now := by
    refine (List.map_map).trans (List.map_congr_left fun k _ => ?_)
    rfl
  rw [restartFrame_adjusted]
  simp only [howed]
  refine congrArg (fun e => n.eqCleared.withEq e) (Equalizer.eq_of_fields rfl rfl rfl rfl ?_ rfl rfl)
  refine Eq.trans (List.map_congr_left fun c _ => if_neg fun h => ?_) hchannels
  exact absurd (show EqState.idle = .running from h.1) (by decide)

/-- R17: the converter of a soft reset. -/
theorem cuSoftReset_eq (n : Node) : n.cuSoftReset = n.withCu {
    st := (match n.cu.st with
      | .converting _ => .recovering (n.now + 10)
      | x => x)
    holder := none, waiting := [], request := none, injection := .off, heldInjection := none, trim := n.cu.trim } := by
  unfold cuSoftReset
  cases n.cu.st <;> rfl

/-- R179: the node a soft reset leaves before its queues are emptied. -/
theorem softReset_blocks (n : Node) : n.softReset
    = ((n.softCleared.eqCleared.withEq n.softCleared.eqFresh).silenceStarted n.cfg.silenceTimeout).chSoftReset := by
  have hreset : n.softReset = (n.softCleared.eqCleared.restartFrame Equalizer.adjusted).silenceRestart.chSoftReset := rfl
  rw [hreset, eqCleared_restart, silenceRestart_eq]
  rfl

theorem keptReplies_eq (n : Node) : n.keptReplies = n.inTransmission := by
  unfold keptReplies inTransmission
  cases h : n.li.txS with
  | none => rfl
  | some tx =>
    obtain ⟨sender, endsAt⟩ := tx
    cases sender <;> rfl

theorem inTransmission_length (n : Node) : n.inTransmission.length ≤ 1 := by
  unfold inTransmission
  split <;> simp

end Node

/-- R179: the blocks a soft reset leaves. -/
theorem softReset_left (n : Node) : n.softReset.now = n.now ∧ n.softReset.identity = n.identity
    ∧ n.softReset.cfg = n.cfg ∧ n.softReset.ss = n.ss ∧ n.softReset.cu = n.cuSoftReset.cu
    ∧ n.softReset.seq = Sequencer.initial ∧ n.softReset.rt = initialRecords ∧ n.softReset.lm = n.lmSoftReset.lm
    ∧ n.softReset.ft = { entries := [], evictions := 0 } ∧ n.softReset.eq = n.eqFresh
    ∧ n.softReset.mu = { st := .idle, op := none }
    ∧ n.softReset.pc = { n.pc with cause := .soft, watchTimer := none, watchRaise := false, watchPass := none } := by
  have hnow : n.softCleared.now = n.now := by simp [Node.softCleared, Node.lmSoftReset, Node.cuSoftReset]
  have hcfg : n.softCleared.cfg = n.cfg := by simp [Node.softCleared, Node.lmSoftReset, Node.cuSoftReset]
  have heq : n.softCleared.eqFresh = n.eqFresh := by rw [Node.eqFresh, Node.eqFresh, hnow, hcfg]
  rw [Node.softReset_blocks, heq]
  refine ⟨?_, ?_, ?_, ?_, ?_, ?_, ?_, ?_, ?_, ?_, ?_, ?_⟩
  all_goals simp [Node.chSoftReset, Node.silenceStarted, Node.eqCleared, Node.softCleared, Node.lmSoftReset,
    Node.cuSoftReset]

/-- R179: the queues and the link a soft reset leaves. -/
theorem softReset_queues {n : Node} (hpending : n.ch.pendingReplies = []) :
    n.softReset.ch = { cmdQueue := [], replyQueue := n.inTransmission, pendingReplies := [],
                       reasons := AlertReasons.none, lastAlert := none }
      ∧ n.softReset.li = { n.li with
          replyDrop := min (n.li.replyDrop + (n.ch.replyQueue.length - n.inTransmission.length)) 65535
          silence := if n.cfg.silenceTimeout = 0 then none else some (n.now + n.cfg.silenceTimeout * 250000) } := by
  have hcleared : n.softCleared.li = n.li ∧ n.softCleared.ch = n.ch ∧ n.softCleared.now = n.now := by
    simp [Node.softCleared, Node.lmSoftReset, Node.cuSoftReset]
  obtain ⟨hli, hch, hnow⟩ := hcleared
  have hstarted : ((n.softCleared.eqCleared.withEq n.softCleared.eqFresh).silenceStarted n.cfg.silenceTimeout).ch = n.ch
      ∧ ((n.softCleared.eqCleared.withEq n.softCleared.eqFresh).silenceStarted n.cfg.silenceTimeout).li = { n.li with
          silence := if n.cfg.silenceTimeout = 0 then none else some (n.now + n.cfg.silenceTimeout * 250000) } := by
    simp [Node.silenceStarted, Node.eqCleared, hli, hch, hnow]
  rw [Node.softReset_blocks]
  generalize (n.softCleared.eqCleared.withEq n.softCleared.eqFresh).silenceStarted n.cfg.silenceTimeout = m at hstarted
  obtain ⟨hmch, hmli⟩ := hstarted
  have hkept : m.keptReplies = n.inTransmission := by
    rw [← Node.keptReplies_eq, Node.keptReplies, Node.keptReplies, hmch, hmli]
  constructor
  · simp [Node.chSoftReset, hkept, hmch, hpending]
  · simp [Node.chSoftReset, hkept, hmch, hmli, Config.linkCounterMax]

/-- R177: an event that leaves no reason and no pending reply leaves the Command Handler as it is. -/
theorem finish_ch_of_quiet {n : Node} (hreasons : n.ch.reasons = AlertReasons.none) (hpending : n.ch.pendingReplies = []) :
    n.finish.ch = n.ch := by
  have hno : ¬(n.AlertIsDue ∧ n.ch.replyQueue.length + n.ch.pendingReplies.length < 4) := by
    rintro ⟨⟨hreason, -⟩, -⟩
    rw [hreasons] at hreason
    simp [AlertReasons.none] at hreason
  rw [Node.finish_ch_of_no_alert hno]
  have hch : n.enforceOpen.ch = n.ch := rfl
  simp only [Node.fillReplies, hch, hpending]
  cases hn : n.ch
  simp_all

/-- R104: an event that leaves every switch open leaves the Equalizer as it is. -/
theorem finish_eq_of_open {n : Node} (hopen : ∀ c ∈ n.eq.channels, c.closed = false) : n.finish.eq = n.eq := by
  have hsame : (n.eq.channels.map fun c => if c.closed = true ∧ ¬(n.mayClose n.eq.slot c = true)
      then { c with closed := false, openSince := n.now, kept := decide (n.eq.slotEnd = some n.now) } else c)
        = n.eq.channels := by
    refine Eq.trans (List.map_congr_left fun c hc => if_neg fun h => ?_) (List.map_id _)
    rw [hopen c hc] at h
    exact Bool.false_ne_true h.1
  rw [Node.finish_eq, Node.enforceOpen_channels, hsame]

/-- Settles O10: the blocks of the state a soft reset leaves, the queues, and the transmissions that go on. -/
theorem resetNodeLeavesTheSoftResetState : Obligations.ResetNodeLeavesTheSoftResetState := by
  intro s f rest ht hk hl
  obtain ⟨-, -, -, hpending⟩ := id ht
  have hexec : exec .resetNode s = s.ends ((s.left rest).softReset.answer f .ok []) :=
    State.onNode_command_of_takes ht (isKind_of_kind hk) (by simp [lengthIs, hl]) _
  obtain ⟨hnow, hid, hcfg, hss, hcu, hseq, hrt, hlm, hft, heq, hmu, hpc⟩ := softReset_left (s.left rest)
  obtain ⟨hch, hli⟩ := softReset_queues (n := s.left rest) hpending
  have hsending : (s.left rest).inTransmission = s.toNode.inTransmission := rfl
  rw [hsending] at hch hli
  generalize (s.left rest).softReset = R at *
  obtain ⟨q, hanswered, hunanswered, hX⟩ : ∃ q : List Frame,
      (f.address ≠ 63 → q = [{ address := BitVec.ofNat 8 s.li.address, kind := 0x85, payload := f.payload ++ [0] }])
        ∧ (f.address = 63 → q = [])
        ∧ R.answer f .ok [] = R.withCh {
            cmdQueue := [], replyQueue := s.toNode.inTransmission ++ q, pendingReplies := []
            reasons := AlertReasons.none, lastAlert := none } := by
    by_cases hbroadcast : f.address = 63
    · refine ⟨[], fun h => absurd hbroadcast h, fun _ => rfl, ?_⟩
      rw [answer_of_broadcast hbroadcast, List.append_nil, ← hch]
      rfl
    · obtain ⟨tag, hp⟩ := List.length_eq_one_iff.mp hl
      refine ⟨_, fun _ => rfl, fun h => absurd h hbroadcast, ?_⟩
      rw [answer_of_not_broadcast hbroadcast, hch, Node.replyFrame, Node.origin, hli, Frame.tag_eq, hp, hk]
      rfl
  rw [hX] at hexec
  have hfch := finish_ch_of_quiet (n := R.withCh {
    cmdQueue := [], replyQueue := s.toNode.inTransmission ++ q, pendingReplies := []
    reasons := AlertReasons.none, lastAlert := none }) rfl rfl
  have hfeq := finish_eq_of_open (n := R.withCh {
    cmdQueue := [], replyQueue := s.toNode.inTransmission ++ q, pendingReplies := []
    reasons := AlertReasons.none, lastAlert := none }) fun c hc => by
      rw [Node.withCh_eq, heq] at hc
      obtain ⟨k, -, rfl⟩ := List.mem_map.mp hc
      rfl
  rw [Node.withCh_ch] at hfch
  rw [Node.withCh_eq, heq] at hfeq
  set X := R.withCh {
    cmdQueue := [], replyQueue := s.toNode.inTransmission ++ q, pendingReplies := []
    reasons := AlertReasons.none, lastAlert := none } with hXdef
  have hfli : X.finish.li = { X.li with
      txN := X.finish.li.txN, txS := X.finish.li.txS, lastSender := X.finish.li.lastSender } := X.finish_li
  have hXli : X.li = _ := hli
  rw [hXli] at hfli
  obtain ⟨hsendN, -, hsendS, -⟩ := freeTransmittersStart X
  rw [hXli] at hsendN hsendS
  have hback : X.finish.withLi { s.li with replyDrop := X.finish.li.replyDrop, silence := X.finish.li.silence } = X := by
    refine Node.eq_of_blocks X.finish_now X.finish_identity X.finish_cfg X.finish_cu X.finish_seq X.finish_rt X.finish_lm
      X.finish_ft (hfeq.trans heq.symm) X.finish_mu ?_ hfch X.finish_ss X.finish_pc
    rw [Node.withLi_li, hfli, hXli]
    rfl
  refine ⟨{ s with toNode := X.finish }, hexec, rfl, X.finish_now.trans hnow, X.finish_identity.trans hid,
    X.finish_cfg.trans hcfg, X.finish_ss.trans hss, X.finish_cu.trans (hcu.trans (congrArg Node.cu (Node.cuSoftReset_eq (s.left rest)) :)), X.finish_seq.trans hseq,
    X.finish_rt.trans hrt, X.finish_lm.trans (hlm.trans rfl), X.finish_ft.trans hft, hfeq.trans rfl, X.finish_mu.trans hmu,
    X.finish_pc.trans hpc, ?_⟩
  have hqueue : X.finish.ch.replyQueue = s.toNode.inTransmission ++ q := congrArg CommandHandler.replyQueue hfch
  have hlast (e : SouthTx) (he : e ∈ s.li.txS) : X.finish.li.txS = some e ∧ X.finish.li.lastSender = s.li.lastSender :=
    hsendS e he
  exact ⟨(congrArg LinkInterface.address hfli :), (congrArg LinkInterface.laneRxS hfli :),
    (congrArg LinkInterface.laneRxN hfli :), (congrArg LinkInterface.laneTxS hfli :),
    (congrArg LinkInterface.laneTxN hfli :), (congrArg LinkInterface.north hfli :), (congrArg LinkInterface.south hfli :),
    (congrArg LinkInterface.commandDrop hfli :), (congrArg LinkInterface.misaddressed hfli :),
    (congrArg LinkInterface.replyDrop hfli :), (congrArg LinkInterface.silence hfli :),
    (congrArg CommandHandler.cmdQueue hfch :), (congrArg CommandHandler.pendingReplies hfch :),
    (congrArg CommandHandler.lastAlert hfch :), (congrArg CommandHandler.reasons hfch :),
    fun h => by rw [hqueue, hanswered h], fun h => by rw [hqueue, hunanswered h, List.append_nil], hsendN, hlast,
    hexec.trans (congrArg s.ends hback.symm)⟩

end Sys2Proof.Machine
end

section
/-! SUPPORT. R129, R130: what a quiet request may rest on. A switch of a held channel does not close, and a channel that is
open stays open since the same moment; so what was settled at a grant time stays settled. -/

namespace Sys2Proof.Machine

/-- The channel `d` is the channel `c`, open since the same moment if `c` was open. -/
def Channel.StaysOpen (c d : Channel) : Prop :=
  d.num = c.num ∧ (c.closed = false → d.closed = false ∧ d.openSince = c.openSince)

theorem Channel.StaysOpen.refl (c : Channel) : c.StaysOpen c := ⟨rfl, fun h => ⟨h, rfl⟩⟩

theorem Channel.StaysOpen.trans {a b c : Channel} (hab : a.StaysOpen b) (hbc : b.StaysOpen c) : a.StaysOpen c := by
  obtain ⟨hnum, hopen⟩ := hab
  obtain ⟨hnum', hopen'⟩ := hbc
  refine ⟨hnum'.trans hnum, fun h => ?_⟩
  obtain ⟨hb, hsince⟩ := hopen h
  obtain ⟨hc, hsince'⟩ := hopen' hb
  exact ⟨hc, hsince'.trans hsince⟩

theorem Channel.Opens.staysOpen {c d : Channel} (h : c.Opens d) : c.StaysOpen d := ⟨h.num, h.kept_open⟩

theorem Channel.StaysOpen.settledBy {c d : Channel} (h : c.StaysOpen d) {settle t : Nat} (hc : c.settledBy settle t) :
    d.settledBy settle t := by
  obtain ⟨hclosed, hsince⟩ := h.2 hc.1
  exact ⟨hclosed, hsince ▸ hc.2⟩

theorem Channel.endSlot_staysOpen (c : Channel) (t next : Nat) : c.StaysOpen (c.endSlot t next) := by
  rw [Channel.endSlot_eq]
  refine ⟨rfl, fun h => ?_⟩
  simp [Channel.afterPartOne, h]

/-- R115: a channel of a request in the list is held. -/
theorem QuietList.holds_of_get {q : QuietList} {who : Client} {r : QuietReq} (hr : r ∈ q.get who) {k : Nat}
    (hk : r.set.contains k = true) : q.holds k = true := by
  have hheld : heldBy (q.get who) k = true := by
    rw [Option.mem_def.mp hr]
    exact hk
  cases who <;> simp_all [QuietList.holds, QuietList.get]

namespace Equalizer

/-- The quiet list stands, and the held channels that were open are open since the same moment. -/
structure Undisturbed (e e' : Equalizer) : Prop where
  quiet : e'.quiet = e.quiet
  held : ∀ d ∈ e'.channels, e.quiet.holds d.num = true → ∃ c ∈ e.channels, c.StaysOpen d

theorem Undisturbed.refl (e : Equalizer) : e.Undisturbed e := ⟨rfl, fun d hd _ => ⟨d, hd, .refl d⟩⟩

theorem Undisturbed.trans {a b c : Equalizer} (hab : a.Undisturbed b) (hbc : b.Undisturbed c) : a.Undisturbed c := by
  refine ⟨hbc.quiet.trans hab.quiet, fun z hz hheld => ?_⟩
  obtain ⟨y, hy, hyz⟩ := hbc.held z hz (hab.quiet ▸ hheld)
  obtain ⟨x, hx, hxy⟩ := hab.held y hy (hyz.1 ▸ hheld)
  exact ⟨x, hx, hxy.trans hyz⟩

/-- A map of the channels that closes no switch. -/
theorem Undisturbed.of_map {e e' : Equalizer} {g : Channel → Channel} (hquiet : e'.quiet = e.quiet)
    (hchannels : e'.channels = e.channels.map g) (hg : ∀ c : Channel, c.StaysOpen (g c)) : e.Undisturbed e' := by
  refine ⟨hquiet, fun d hd _ => ?_⟩
  rw [hchannels] at hd
  obtain ⟨c, hc, rfl⟩ := List.mem_map.mp hd
  exact ⟨c, hc, hg c⟩

theorem Undisturbed.of_eq {e e' : Equalizer} (hquiet : e'.quiet = e.quiet) (hchannels : e'.channels = e.channels) :
    e.Undisturbed e' :=
  .of_map hquiet (hchannels.trans (List.map_id _).symm) fun c => .refl c

/-- R102: switches that close only on channels no request holds. -/
theorem closing_undisturbed {e e' : Equalizer} {p : Channel → Bool} (hquiet : e'.quiet = e.quiet)
    (hchannels : e'.channels = (e.closing p).channels) (hp : ∀ c : Channel, p c = true → e.quiet.holds c.num = false) :
    e.Undisturbed e' := by
  refine ⟨hquiet, fun d hd hheld => ?_⟩
  rw [hchannels] at hd
  obtain ⟨c, hc, rfl⟩ := List.mem_map.mp hd
  refine ⟨c, hc, ?_⟩
  split
  · rename_i hpc
    rw [if_pos hpc] at hheld
    cases hheld.symm.trans (hp c hpc)
  · exact .refl c

end Equalizer

namespace Node

theorem mayClose_unheld {n : Node} {slot : Nat} {c : Channel} (h : n.mayClose slot c = true) :
    n.eq.quiet.holds c.num = false := by
  obtain ⟨-, -, -, hheld, -⟩ := (n.mayClose_iff slot c).mp h
  exact hheld

/-! ### The operations on the switches -/

theorem QuietLaw.of_undisturbed {n m : Node} (h : n.QuietLaw) (heq : n.eq.Undisturbed m.eq) (hnow : n.now ≤ m.now) :
    m.QuietLaw := by
  intro who r hr
  rw [heq.quiet] at hr
  obtain ⟨hsettled, hgranted⟩ := h who r hr
  refine ⟨fun d hd hset => ?_, fun hg => (hgranted hg).trans hnow⟩
  obtain ⟨c, hc, hcd⟩ := heq.held d hd (QuietList.holds_of_get hr hset)
  exact hcd.settledBy (hsettled c hc (hcd.1 ▸ hset))

theorem QuietLaw.congr {n m : Node} (h : n.QuietLaw) (heq : m.eq = n.eq) (hnow : n.now ≤ m.now) : m.QuietLaw :=
  h.of_undisturbed (heq ▸ .refl _) hnow

theorem quietLaw_of_empty {n : Node} (h : n.eq.quiet = QuietList.empty) : n.QuietLaw := by
  intro who r hr
  rw [h] at hr
  cases who <;> cases hr

theorem enforceOpen_undisturbed (n : Node) : n.eq.Undisturbed n.enforceOpen.eq :=
  .of_map rfl rfl fun c => by
    split
    · exact .refl c
    · exact (c.openAt_opens _ _).staysOpen

theorem restartFrame_undisturbed (n : Node) (st : Equalizer → EqState) : n.eq.Undisturbed (n.restartFrame st).eq := by
  have htaken : n.eq.Undisturbed { n.eq.frameTaken n.cfg.eqFrame with st := st (n.eq.frameTaken n.cfg.eqFrame) } :=
    .of_map rfl rfl fun c => by
      rw [Channel.applyStaged_eq]
      exact .refl c
  rw [restartFrame_eq]
  exact htaken.trans (Equalizer.closing_undisturbed rfl rfl fun c hmay => mayClose_unheld (n := n.withEq _) hmay)

theorem beginSlot_undisturbed (n : Node) (k t : Nat) : n.eq.Undisturbed (n.beginSlot k t).eq := by
  rw [beginSlot_eq]
  exact Equalizer.closing_undisturbed rfl rfl fun _ hmay => mayClose_unheld hmay

theorem eqWake_undisturbed (n : Node) (w : Bool) : n.eq.Undisturbed (n.eqWake w).eq := by
  by_cases h : n.eq.st = .disabled
  · rw [eqWake_eq h]
    exact (n.restartFrame_undisturbed _).trans (.of_eq rfl rfl)
  · rw [eqWake_of_ne h]
    exact .refl _

theorem frameWake_undisturbed (n : Node) : n.eq.Undisturbed n.frameWake.eq := by
  have h := eqWake_undisturbed (n.withPc { n.pc with power := .active, watchTimer := none }).powerUp false
  rw [frameWake_eq]
  simpa using h

theorem slotBoundary_undisturbed (n : Node) (t : Nat) : n.eq.Undisturbed (n.slotBoundary t).eq := by
  have hend : n.eq.Undisturbed n.endSlot.eq := by
    rw [endSlot_eq]
    exact .of_map rfl rfl fun c => c.endSlot_staysOpen _ _
  rw [slotBoundary_eq]
  split
  · have hstaged : n.endSlot.eq.Undisturbed { n.endSlot.eq with frameMs := n.cfg.eqFrame }.stagedApplied :=
      .of_map rfl rfl fun c => by
        rw [Channel.applyStaged_eq]
        exact .refl c
    exact (hend.trans hstaged).trans (beginSlot_undisturbed (n.endSlot.withEq _) _ _)
  · exact hend.trans (beginSlot_undisturbed _ _ _)

theorem watchDecide_undisturbed (n : Node) : n.eq.Undisturbed n.watchDecide.eq := by
  unfold watchDecide
  split
  · split
    · simpa using eqWake_undisturbed
        ((n.withPc { n.pc with power := .active }).addReason fun r => { r with watchWake := true }) true
    · simpa using Equalizer.Undisturbed.refl n.eq
  · exact .refl _
  · exact .refl _

theorem safeStop_undisturbed (n : Node) : n.eq.Undisturbed n.safeStop.eq := by
  rw [safeStop_eq]
  split
  · exact .of_map rfl rfl fun c => ⟨rfl, fun h => by simp [h]⟩
  · exact .refl _

theorem eqDisable_undisturbed (n : Node) : n.eq.Undisturbed n.eqDisable.eq :=
  .of_map rfl rfl fun c => (c.cut_opens _).staysOpen

theorem changePopulation_undisturbed (n : Node) (v : Nat) : n.eq.Undisturbed (n.changePopulation v).eq :=
  .of_map rfl rfl fun c => by split <;> exact .refl c

theorem stage_undisturbed (e : Equalizer) (entries : List EqEntry) : e.Undisturbed (e.stage entries) :=
  .of_map rfl rfl fun c => by split <;> exact .refl c

theorem stop_undisturbed (e : Equalizer) (t : Nat) : e.Undisturbed (e.stop t) := by
  rw [Equalizer.stop_eq]
  exact .of_map rfl rfl fun c => ⟨rfl, fun h => by simp [h]⟩

/-! ### A request made, granted and left -/

/-- R129: the grant time of a request is no earlier than the settle time of each channel of its set. -/
theorem openSince_le_latest {l : List Channel} {c : Channel} (hc : c ∈ l) {set : List Nat} (hset : c.num ∈ set) :
    c.openSince ≤ ((l.filter fun c => decide (c.num ∈ set)).map fun c => c.openSince).foldr max 0 := by
  have hmem : c.openSince ∈ (l.filter fun c => decide (c.num ∈ set)).map fun c => c.openSince :=
    List.mem_map.mpr ⟨c, List.mem_filter.mpr ⟨hc, decide_eq_true hset⟩, rfl⟩
  generalize (l.filter fun c => decide (c.num ∈ set)).map (fun c => c.openSince) = times at hmem
  induction times with
  | nil => cases hmem
  | cons t ts ih =>
    rcases List.mem_cons.mp hmem with rfl | htail
    · exact le_max_left _ _
    · exact (ih htail).trans (le_max_right _ _)

theorem quietRequest_quietLaw {n : Node} (h : n.QuietLaw) (who : Client) (set : List Nat) :
    (n.quietRequest who set).QuietLaw := by
  have hlaw : (n.withEq (n.eq.mapChannels fun c =>
      if set.contains c.num then c.openAt n.now (n.eq.atSlotEnd n.now) else c)).QuietLaw :=
    h.of_undisturbed (.of_map rfl rfl fun c => by
      split
      · exact (c.openAt_opens _ _).staysOpen
      · exact .refl c) le_rfl
  intro w r hr
  simp only [quietRequest, withEq_eq, quiet_get_set] at hr
  split at hr
  · cases hr
    refine ⟨fun c hc hset => ⟨?_, ?_⟩, fun hg => of_decide_eq_true hg⟩
    · obtain ⟨d, -, rfl⟩ := List.mem_map.mp hc
      have hd : set.contains d.num = true := by
        split at hset
        · assumption
        · exact hset
      rw [if_pos hd]
      cases hclosed : d.closed <;> simp [Channel.openAt, hclosed]
    · have hle := openSince_le_latest hc (List.contains_iff_mem.mp hset)
      rw [← latestOpen_eq] at hle
      exact (Nat.add_le_add_right hle _).trans (le_max_right _ _)
  · exact hlaw w r hr

theorem quietRelease_quietLaw {n : Node} (h : n.QuietLaw) (who : Client) : (n.quietRelease who).QuietLaw := by
  intro w r hr
  simp only [quietRelease, withEq_eq, quiet_get_set] at hr
  split at hr
  · cases hr
  · exact h w r hr

/-- R130: a grant at its grant time. -/
theorem quietGranted_quietLaw {n : Node} (h : n.QuietLaw) {who : Client} {r : QuietReq} (hr : n.eq.quiet.get who = some r)
    (hnow : r.grantAt ≤ n.now) :
    (n.withEq { n.eq with quiet := n.eq.quiet.set who (some { r with granted := true }) }).QuietLaw := by
  intro w q hq
  simp only [withEq_eq, quiet_get_set] at hq
  split at hq
  · cases hq
    obtain ⟨hsettled, -⟩ := h who r hr
    exact ⟨hsettled, fun _ => hnow⟩
  · exact h w q hq

theorem Move.quietLaw {n m : Node} (hm : n.Move m) (h : n.QuietLaw) : m.QuietLaw := by
  cases hm with
  | quietAsked who set => exact quietRequest_quietLaw h who set
  | quietLeft who => exact quietRelease_quietLaw h who
  | operationEnded hop b reply => cases b <;> exact h.congr (by simp) (by simp)
  | _ => exact h.congr (by simp) (by simp)

theorem Works.quietLaw {n m : Node} (hm : n.Works m) (h : n.QuietLaw) : m.QuietLaw :=
  hm.keeps (P := fun n => n.QuietLaw) (fun _ _ => Move.quietLaw) h

/-! ### The events -/

theorem deliver_quietLaw {n : Node} (h : n.QuietLaw) (v : Int) : (n.deliver v).QuietLaw := by
  obtain ⟨m, hm, heq | heq⟩ := deliver_works n v
  · rw [heq]
    exact hm.quietLaw h
  · rw [heq]
    exact (hm.quietLaw h).of_undisturbed m.watchDecide_undisturbed (by simp)

theorem started_quietLaw {n : Node} (h : n.QuietLaw) : n.started.QuietLaw := by
  have hrestart := restartFrame_undisturbed (n.applyLoad.withPc { n.applyLoad.pc with
    power := .active, phase := .complete }) Equalizer.adjusted
  rw [← started_eq, withPc_eq, applyLoad_eq] at hrestart
  exact h.of_undisturbed hrestart (by rw [started_now])

theorem enterStandby_quietLaw {n : Node} (h : n.QuietLaw) : n.enterStandby.QuietLaw := by
  have hasleep : n.asleep.QuietLaw := by
    refine (n.seqStop_works.quietLaw h).of_undisturbed ?_ (by simp [asleep])
    rw [asleep_eq]
    exact eqDisable_undisturbed _
  rw [enterStandby_eq]
  split
  · exact hasleep
  · exact hasleep.of_undisturbed n.asleep.frameWake_undisturbed (by simp)

theorem enqueueCommand_quietLaw {n : Node} (h : n.QuietLaw) (f : Frame) : (n.enqueueCommand f).QuietLaw := by
  refine h.of_undisturbed ?_ (by simp)
  unfold enqueueCommand
  split
  · dsimp only
    split
    · exact .refl _
    · simpa using Equalizer.Undisturbed.refl n.eq
    · exact frameWake_undisturbed (n.withCh { n.ch with cmdQueue := n.ch.cmdQueue ++ [f] })
  · dsimp only
    split
    · exact .refl _
    · simpa using Equalizer.Undisturbed.refl n.eq
    · exact .refl _

theorem Taken.quietLaw {f : Frame} {n m : Node} (hm : n.Taken f m) (h : n.QuietLaw) : m.QuietLaw := by
  have hanswer : ∀ {m : Node}, m.QuietLaw → ∀ (st : Status) (data : List Byte), (m.answer f st data).QuietLaw :=
    fun hm st data => hm.congr (by simp) (by simp)
  cases hm with
  | nodeReset =>
    refine hanswer (quietLaw_of_empty ?_) _ _
    rw [softReset_eq, restartFrame_eq]
    rfl
  | populationSet v hv hallowed => exact hanswer (h.of_undisturbed (n.changePopulation_undisturbed v) le_rfl) _ _
  | scanStarted hst hmu => exact hanswer ((n.passStart_works true).quietLaw h) _ _
  | scanStopped => exact hanswer (n.seqStop_works.quietLaw h) _ _
  | eqStaged entries hentries => exact hanswer (h.of_undisturbed (m := n.withEq _) (stage_undisturbed n.eq entries) le_rfl) _ _
  | eqStopped => exact hanswer (h.of_undisturbed (m := n.withEq _) (stop_undisturbed n.eq n.now) le_rfl) _ _
  | eqResumed => exact hanswer (h.of_undisturbed (m := n.withEq n.eq.resume) (.of_eq rfl rfl) le_rfl) _ _
  | doneEmptied data =>
    have hemptied : n.eq.Undisturbed n.eq.emptyDone := .of_map rfl rfl fun c => .refl c
    exact h.of_undisturbed (by simpa using hemptied) (by simp)
  | operationAccepted b hb => exact (acceptOperation_works f b n).quietLaw h
  | operationAborted o ho => exact (abortOperation_works o _).quietLaw (hanswer h _ _)
  | standbyEntered hmu hw => exact enterStandby_quietLaw (hanswer h _ _)
  | saveBegun hss => exact h
  | _ => exact h.congr (by simp [restoreDefaults]) (by simp [restoreDefaults])

theorem Heard.quietLaw {k : Lane} {n m : Node} (hm : n.Heard k m) (h : n.QuietLaw) : m.QuietLaw := by
  cases hm with
  | northbound f hk =>
    have hhunt : (n.setReceiver .rxS .hunt).QuietLaw := h.congr (by simp) (by simp)
    generalize n.setReceiver .rxS .hunt = m at hhunt
    rcases m.northbound_cases f with heq | heq | heq | heq
    · rw [heq]
      exact enqueueCommand_quietLaw hhunt f
    · rw [heq]
      exact (enqueueCommand_quietLaw hhunt f).congr (by simp) (by simp)
    · rw [heq]
      exact hhunt.congr (by simp) (by simp)
    · rw [heq]
      exact hhunt.congr (by simp) (by simp)
  | _ => exact h.congr (by simp [abandon]) (by simp [abandon])

theorem Expired.quietLaw {n m e : Node} {t : Nat} (he : n.Expired t m e) (hquiet : m.eq.quiet = n.eq.quiet)
    (ht : t ≤ m.now) (h : m.QuietLaw) : e.QuietLaw := by
  cases he with
  | loaded hphase => exact (autostart_works _).quietLaw (started_quietLaw h)
  | settled hst => exact m.enterIdle_works.quietLaw h
  | recovered hst => exact m.enterIdle_works.quietLaw h
  | converted c reading hst hc => exact deliver_quietLaw (m.conversionEnds_works.quietLaw h) _
  | passDue hst hmu => exact (m.passStart_works false).quietLaw h
  | quietGranted who r hr hgrant =>
    exact (actOnGrant_works _ who).quietLaw (quietGranted_quietLaw h (hquiet ▸ hr) (hgrant ▸ ht))
  | slotEnded hslot => exact h.of_undisturbed (m.slotBoundary_undisturbed t) (by simp)
  | injected hst => exact m.injectSettled_works.quietLaw h
  | silent hli =>
    have hraised : ((m.withLi { m.li with silence := none }).raiseFault .linkSilent 0 m.seq.passCounter none).QuietLaw :=
      h.congr (by simp) (by simp)
    exact hraised.of_undisturbed (safeStop_undisturbed _) (by simp [linkSilence])
  | saved v hv =>
    unfold saveEnd
    dsimp only
    split <;> exact h.congr (by simp) (by simp)
  | watchBegun htimer =>
    refine (leaseRequest_works _ _).quietLaw (h.congr ?_ ?_) <;> simp
  | _ => exact h.congr (by simp [abandon]) (by simp [abandon])

theorem Event.quietLaw {n m : Node} (hm : n.Event m) (h : n.QuietLaw) : m.QuietLaw := by
  cases hm with
  | supplied dt => exact quietLaw_of_empty (by simp [powerOnReset, coldReset, cold])
  | broken dt => exact quietLaw_of_empty rfl
  | unsupplied dt => exact quietLaw_of_empty rfl
  | released dt hphase => exact h.congr (by simp [elapse]) (by simpa using n.now_le_elapse dt)
  | expiry t hdue he => exact he.quietLaw rfl le_rfl (h.congr rfl hdue.1)
  | symbol dt k y he => exact he.quietLaw (h.congr (by simp [elapse]) (by simpa using n.now_le_elapse dt))
  | command f rest ht he => exact he.quietLaw h

theorem finish_quietLaw {n : Node} (h : n.QuietLaw) : n.finish.QuietLaw := by
  refine h.of_undisturbed ?_ (by simp)
  rw [finish_eq]
  exact n.enforceOpen_undisturbed

end Node

/-- Settles O57: a granted request's channels are settled, since its grant time has come. -/
theorem grantedQuietIsSettled : Obligations.GrantedQuietIsSettled := by
  intro s t hs h
  have ht : t.QuietLaw := step_keeps (P := fun n => n.QuietLaw) (fun _ _ hn hm => Node.finish_quietLaw (hm.quietLaw hn)) hs h
  refine ⟨ht, fun who r hr hgranted c hc hset => ?_⟩
  obtain ⟨hsettled, hgrant⟩ := ht who r hr
  obtain ⟨hclosed, hsince⟩ := hsettled c hc (List.contains_iff_mem.mpr hset)
  exact ⟨hclosed, hsince.trans (hgrant hgranted)⟩

end Sys2Proof.Machine
end

section
/-! SUPPORT. R165, R177: the capacities. What each operation does to the queues of the Command Handler and to the replies
that are still owed. -/

namespace Sys2Proof.Machine

/-- The queues of the Command Handler, without its alert generator. -/
def CommandHandler.queues (c : CommandHandler) : List Frame × List Frame × List PendingReply :=
  (c.cmdQueue, c.replyQueue, c.pendingReplies)

theorem CommandHandler.queues_eq_iff (c d : CommandHandler) : c.queues = d.queues
    ↔ c.cmdQueue = d.cmdQueue ∧ c.replyQueue = d.replyQueue ∧ c.pendingReplies = d.pendingReplies := by
  simp [CommandHandler.queues]

namespace Node

/-! ### What leaves the queues as they are -/

@[simp] theorem addReason_queues (n : Node) (f : AlertReasons → AlertReasons) :
    (n.addReason f).ch.queues = n.ch.queues := by
  unfold addReason
  split <;> rfl

@[simp] theorem raiseFault_queues (n : Node) (k : FaultKind) (src pass : Nat) (v : Option Int) :
    (n.raiseFault k src pass v).ch.queues = n.ch.queues := by
  unfold raiseFault noteNews
  dsimp only
  (repeat' split) <;> simp

@[simp] theorem judge_queues (n : Node) (src pass : Nat) (v : Int) : (n.judge src pass v).ch.queues = n.ch.queues := by
  unfold judge applyVerdict
  (repeat' split) <;> simp

@[simp] theorem writeResult_queues (n : Node) (w : ResultWrite) : (n.writeResult w).ch.queues = n.ch.queues := by
  simp [writeResult]

@[simp] theorem plausibility_queues (n : Node) (pass : Nat) : (n.plausibility pass).ch.queues = n.ch.queues := by
  unfold plausibility
  (repeat' split) <;> simp

@[simp] theorem railOutcome_queues (n : Node) (r : Range) (u : BitVec 6) :
    (n.railOutcome r u).ch.queues = n.ch.queues := by
  unfold railOutcome
  split <;> simp

@[simp] theorem watchDecide_queues (n : Node) : n.watchDecide.ch.queues = n.ch.queues := by
  unfold watchDecide
  (repeat' split) <;> simp

@[simp] theorem slotBoundary_queues (n : Node) (t : Nat) : (n.slotBoundary t).ch.queues = n.ch.queues := by
  have hend : n.endSlot.ch.queues = n.ch.queues := by
    unfold endSlot
    dsimp only
    split <;> simp
  unfold slotBoundary
  dsimp only
  split <;> simpa using hend

@[simp] theorem applyLoad_queues (n : Node) : n.applyLoad.ch.queues = n.ch.queues := by
  unfold applyLoad
  split <;> simp [loadLimits]

/-! ### What leaves the forward buffers as they are -/

@[simp] theorem silenceRestart_buffers (n : Node) :
    n.silenceRestart.li.north = n.li.north ∧ n.silenceRestart.li.south = n.li.south :=
  ⟨rfl, rfl⟩

@[simp] theorem modifyLane_buffers (n : Node) (k : Lane) (g : LaneState → LaneState) :
    (n.modifyLane k g).li.north = n.li.north ∧ (n.modifyLane k g).li.south = n.li.south := by
  cases k <;> exact ⟨rfl, rfl⟩

@[simp] theorem setReceiver_buffers (n : Node) (k : Lane) (rx : Receiver) :
    (n.setReceiver k rx).li.north = n.li.north ∧ (n.setReceiver k rx).li.south = n.li.south :=
  n.modifyLane_buffers k _

@[simp] theorem noteSymbol_buffers (n : Node) (k : Lane) (y : LineSymbol) :
    (n.noteSymbol k y).li.north = n.li.north ∧ (n.noteSymbol k y).li.south = n.li.south := by
  unfold noteSymbol
  dsimp only
  split <;> simp

@[simp] theorem abandon_buffers (n : Node) (k : Lane) (rx : Receiver) (count : LaneCounters → LaneCounters) :
    (n.abandon k rx count).li.north = n.li.north ∧ (n.abandon k rx count).li.south = n.li.south := by
  simp [abandon]

@[simp] theorem frameWake_buffers (n : Node) :
    n.frameWake.li.north = n.li.north ∧ n.frameWake.li.south = n.li.south := by
  simp [frameWake]

@[simp] theorem watchDecide_buffers (n : Node) :
    n.watchDecide.li.north = n.li.north ∧ n.watchDecide.li.south = n.li.south := by
  unfold watchDecide
  (repeat' split) <;> simp

@[simp] theorem beginStartUp_buffers (n : Node) :
    n.beginStartUp.li.north = n.li.north ∧ n.beginStartUp.li.south = n.li.south := by
  simp [beginStartUp, startReceivers]

@[simp] theorem applyLoad_left (n : Node) : n.applyLoad.li = n.li ∧ n.applyLoad.mu = n.mu ∧ n.applyLoad.ss = n.ss := by
  unfold applyLoad
  split <;> simp [loadLimits]

/-! ### The law -/

/-- All that the capacities are about. -/
def burden (n : Node) : (List Frame × List Frame × List PendingReply) × (List Frame × List Frame) × (Bool × Bool) :=
  (n.ch.queues, (n.li.north, n.li.south), (n.mu.op.isSome, n.ss.saving.isSome))

theorem CapacityLaw.congr {n m : Node} (h : n.CapacityLaw) (hburden : m.burden = n.burden) : m.CapacityLaw := by
  simp only [burden, CommandHandler.queues, Prod.mk.injEq] at hburden
  obtain ⟨⟨hcmd, hreply, hpending⟩, ⟨hnorth, hsouth⟩, hop, hsaving⟩ := hburden
  unfold CapacityLaw
  rwa [hcmd, hreply, hpending, hnorth, hsouth, hop, hsaving]

/-- The links with frames within the buffers, and no reply owed from before. -/
structure Roomy (n : Node) : Prop where
  cmd : n.ch.cmdQueue.length ≤ 4
  north : n.li.north.length ≤ 2
  south : n.li.south.length ≤ 2
  reply : n.ch.replyQueue.length < 4
  pending : n.ch.pendingReplies = []

theorem Roomy.congr {n m : Node} (h : n.Roomy) (hqueues : m.ch.queues = n.ch.queues)
    (hnorth : m.li.north = n.li.north) (hsouth : m.li.south = n.li.south) : m.Roomy := by
  obtain ⟨hcmd, hreply, hpending⟩ := (CommandHandler.queues_eq_iff _ _).mp hqueues
  obtain ⟨h1, h2, h3, h4, h5⟩ := h
  constructor <;> simp_all

/-- Without a reply from before, the operation in flight and the save in progress owe one each. -/
theorem capacity_of_pending {n : Node} (hcmd : n.ch.cmdQueue.length ≤ 4) (hreply : n.ch.replyQueue.length ≤ 4)
    (hnorth : n.li.north.length ≤ 2) (hsouth : n.li.south.length ≤ 2) (hpending : n.ch.pendingReplies = []) :
    n.CapacityLaw := by
  refine ⟨hcmd, hreply, hnorth, hsouth, ?_⟩
  have hop := Bool.toNat_le n.mu.op.isSome
  have hsaving := Bool.toNat_le n.ss.saving.isSome
  rw [hpending, List.length_nil]
  omega

theorem Roomy.capacity {n : Node} (h : n.Roomy) : n.CapacityLaw :=
  capacity_of_pending h.cmd h.reply.le h.north h.south h.pending

theorem Roomy.answer {n : Node} (h : n.Roomy) (f : Frame) (st : Status) (data : List Byte) :
    (n.answer f st data).CapacityLaw := by
  have hreply := h.reply
  unfold Node.answer
  split
  · exact h.capacity
  · refine capacity_of_pending h.cmd ?_ h.north h.south h.pending
    simp only [withCh_ch, List.length_append, List.length_singleton]
    omega

/-- R177: a completion reply takes a free place of the reply queue, or one more of the pending list. -/
theorem completionReply_queues {n : Node} (h : n.ch.replyQueue.length ≤ 4) (owner : ReplyOwner) (f : Frame) :
    (n.completionReply owner f).ch.cmdQueue = n.ch.cmdQueue ∧ (n.completionReply owner f).ch.replyQueue.length ≤ 4
      ∧ (n.completionReply owner f).ch.pendingReplies.length ≤ n.ch.pendingReplies.length + 1 := by
  unfold completionReply
  split
  · rename_i hfree
    simp only [Bool.and_eq_true, replyFree, decide_eq_true_eq] at hfree
    obtain ⟨hfree, -⟩ := hfree
    refine ⟨rfl, ?_, Nat.le_succ _⟩
    rw [withCh_ch, List.length_append]
    exact Nat.succ_le_of_lt hfree
  · exact ⟨rfl, h, by simp⟩

theorem operationEnded_capacity {n : Node} (h : n.CapacityLaw) (hop : n.mu.op.isSome = true) (owner : ReplyOwner)
    (f : Frame) : ((n.completionReply owner f).withMu { st := .idle, op := none }).CapacityLaw := by
  obtain ⟨hcmd, hreply, hnorth, hsouth, hsum⟩ := h
  obtain ⟨hcmd', hreply', hpending'⟩ := completionReply_queues hreply owner f
  rw [hop, Bool.toNat_true] at hsum
  refine ⟨hcmd'.symm ▸ hcmd, hreply', ?_, ?_, ?_⟩
  · simpa using hnorth
  · simpa using hsouth
  · simp only [withMu_ch, withMu_mu, withMu_ss, completionReply_frame, Option.isSome_none, Bool.toNat_false]
    omega

theorem Move.capacity {n m : Node} (hm : n.Move m) (h : n.CapacityLaw) : m.CapacityLaw := by
  cases hm with
  | operationEnded hop b reply =>
    cases b
    · exact operationEnded_capacity h hop _ _
    · obtain ⟨hcmd, hreply, hnorth, hsouth, hsum⟩ := h
      refine ⟨hcmd, hreply, hnorth, hsouth, ?_⟩
      simp only [withMu_ch, withMu_mu, withMu_ss, if_true, Option.isSome_none, Bool.toNat_false]
      omega
  | maintenance x hop hx => exact h.congr (by simpa [burden] using hop)
  | _ => exact h.congr (by simp [burden])

theorem Works.capacity {n m : Node} (hm : n.Works m) (h : n.CapacityLaw) : m.CapacityLaw :=
  hm.keeps (P := fun n => n.CapacityLaw) (fun _ _ => Move.capacity) h

/-! ### The events -/

/-- R179: a soft reset keeps one reply at most, the one in transmission, and no reply waits. -/
theorem softReset_roomy {n : Node} (h : n.Roomy) : n.softReset.Roomy := by
  obtain ⟨hch, hli⟩ := softReset_queues h.pending
  have hkept := n.inTransmission_length
  refine ⟨?_, ?_, ?_, ?_, ?_⟩
  · simp [hch]
  · simpa [hli] using h.north
  · simpa [hli] using h.south
  · rw [hch]
    exact hkept.trans_lt (by decide)
  · rw [hch]

theorem enterStandby_capacity {n : Node} (h : n.CapacityLaw) : n.enterStandby.CapacityLaw := by
  have hasleep : n.asleep.CapacityLaw := (n.seqStop_works.capacity h).congr (by simp [burden, asleep])
  rw [enterStandby_eq]
  split
  · exact hasleep
  · exact hasleep.congr (by simp [burden])

theorem Taken.capacity {f : Frame} {n m : Node} (hm : n.Taken f m) (h : n.Roomy) : m.CapacityLaw := by
  have hanswer : ∀ {m : Node}, m.ch.queues = n.ch.queues → m.li.north = n.li.north → m.li.south = n.li.south →
      ∀ (st : Status) (data : List Byte), (m.answer f st data).CapacityLaw :=
    fun hqueues hnorth hsouth st data => (h.congr hqueues hnorth hsouth).answer f st data
  cases hm with
  | unanswered => exact h.capacity
  | countersCleared data => exact (h.answer f .ok data).congr rfl
  | nodeReset => exact (softReset_roomy h).answer _ _ _
  | scanStarted hst hmu => exact hanswer (by simp) (by simp) (by simp) _ _
  | scanStopped => exact hanswer (by simp) (by simp) (by simp) _ _
  | saveBegun hss => exact (h.congr (m := n.beginSave f) rfl rfl rfl).capacity
  | passDoneTaken data => exact (h.answer f .ok data).congr rfl
  | doneEmptied data => exact (h.answer f .ok data).congr rfl
  | operationAccepted b hb =>
    have htaken : (n.withMu { st := .leaseWait, op := some { tag := f.tag, broadcast := f.isBroadcast, body := b } }).Roomy :=
      h.congr rfl rfl rfl
    exact (acceptOperation_works f b n).capacity htaken.capacity
  | operationAborted o ho => exact (abortOperation_works o _).capacity (h.answer f .ok [])
  | standbyEntered hmu hw => exact enterStandby_capacity (h.answer f .ok [])
  | _ =>
    refine Roomy.answer ?_ _ _ _
    exact h.congr rfl rfl rfl

theorem tail_length_le {α : Type} (l : List α) : l.tail.length ≤ l.length := by
  rw [List.length_tail]
  exact Nat.sub_le _ _

theorem enqueueCommand_capacity {n : Node} (h : n.CapacityLaw) (f : Frame) : (n.enqueueCommand f).CapacityLaw := by
  have hroomy : n.ch.cmdQueue.length < 4 → (n.withCh { n.ch with cmdQueue := n.ch.cmdQueue ++ [f] }).CapacityLaw :=
    fun hroom => by
      obtain ⟨-, hrest⟩ := h
      refine ⟨?_, hrest⟩
      rw [withCh_ch, List.length_append]
      exact Nat.succ_le_of_lt hroom
  unfold enqueueCommand
  split
  · rename_i hroom
    dsimp only
    split
    · exact hroomy hroom
    · exact (hroomy hroom).congr (by simp [burden])
    · exact (hroomy hroom).congr (by simp [burden])
  · dsimp only
    split <;> exact h.congr (by simp [burden])

theorem enqueueNorth_capacity {n : Node} (h : n.CapacityLaw) (f : Frame) : (n.enqueueNorth f).CapacityLaw := by
  obtain ⟨hcmd, hreply, hnorth, hsouth, hsum⟩ := h
  unfold enqueueNorth
  split
  · rename_i hroom
    refine ⟨hcmd, hreply, ?_, hsouth, hsum⟩
    simpa using hroom
  · exact ⟨hcmd, hreply, hnorth, hsouth, hsum⟩

theorem enqueueSouth_capacity {n : Node} (h : n.CapacityLaw) (f : Frame) : (n.enqueueSouth f).CapacityLaw := by
  obtain ⟨hcmd, hreply, hnorth, hsouth, hsum⟩ := h
  unfold enqueueSouth
  split
  · rename_i hroom
    refine ⟨hcmd, hreply, hnorth, ?_, hsum⟩
    simpa using hroom
  · exact ⟨hcmd, hreply, hnorth, hsouth, hsum⟩

theorem Heard.capacity {k : Lane} {n m : Node} (hm : n.Heard k m) (h : n.CapacityLaw) : m.CapacityLaw := by
  have hlane : ∀ (k : Lane) (rx : Receiver), (n.setReceiver k rx).CapacityLaw := fun k rx =>
    h.congr (by simp [burden])
  cases hm with
  | ignored => exact h
  | taken rx => exact hlane k rx
  | abandoned rx count => exact h.congr (by simp [burden, abandon])
  | northbound f hk =>
    have hhunt := hlane .rxS .hunt
    generalize n.setReceiver .rxS .hunt = m at hhunt
    rcases m.northbound_cases f with heq | heq | heq | heq
    · rw [heq]
      exact enqueueCommand_capacity hhunt f
    · rw [heq]
      exact enqueueNorth_capacity (enqueueCommand_capacity hhunt f) f
    · rw [heq]
      exact enqueueNorth_capacity hhunt f
    · rw [heq]
      exact hhunt.congr rfl
  | southbound f hk =>
    have hhunt := hlane .rxN .hunt
    simp only [Node.southbound]
    split
    · exact enqueueSouth_capacity hhunt f
    · exact hhunt.congr rfl

/-- R190: the save ends, and the reply it owes enters a queue. -/
theorem saveEnd_capacity {n : Node} (h : n.CapacityLaw) {v : Saving} (hv : n.ss.saving = some v) :
    (n.saveEnd v).CapacityLaw := by
  obtain ⟨hcmd, hreply, hnorth, hsouth, hsum⟩ := h
  rw [hv, Option.isSome_some, Bool.toNat_true] at hsum
  unfold saveEnd
  dsimp only
  split
  · refine ⟨hcmd, hreply, hnorth, hsouth, ?_⟩
    simp only [clearFault_frame, withSs_ch, withSs_mu, withSs_ss, Option.isSome_none, Bool.toNat_false]
    omega
  · generalize hm : (n.withSs { image := some v.snapshot, saving := none }).clearFault .storeInvalid 0 = m
    have hch : m.ch = n.ch := by simp [← hm]
    have hli : m.li = n.li := by simp [← hm]
    have hmu : m.mu = n.mu := by simp [← hm]
    have hss : m.ss.saving = none := by simp [← hm]
    have hreply : m.ch.replyQueue.length ≤ 4 := hch ▸ hreply
    obtain ⟨hcmd', hreply', hpending'⟩ := completionReply_queues hreply .store (m.replyFrame 0x14 v.tag .ok [])
    refine ⟨?_, hreply', ?_, ?_, ?_⟩
    · rwa [hcmd', hch]
    · simpa [hli] using hnorth
    · simpa [hli] using hsouth
    · rw [hch] at hpending'
      simp only [completionReply_frame, hmu, hss, Option.isSome_none, Bool.toNat_false]
      omega

theorem Expired.capacity {n m e : Node} {t : Nat} (he : n.Expired t m e) (hss : m.ss = n.ss) (h : m.CapacityLaw) :
    e.CapacityLaw := by
  cases he with
  | loaded hphase =>
    refine (autostart_works _).capacity (h.congr ?_)
    simp [burden]
  | settled hst => exact m.enterIdle_works.capacity h
  | recovered hst => exact m.enterIdle_works.capacity h
  | converted c reading hst hc =>
    obtain ⟨x, hx, heq | heq⟩ := deliver_works m.conversionEnds (c.sample reading)
    · rw [heq]
      exact hx.capacity (m.conversionEnds_works.capacity h)
    · rw [heq]
      exact (hx.capacity (m.conversionEnds_works.capacity h)).congr (by simp [burden])
  | passDue hst hmu => exact (m.passStart_works false).capacity h
  | quietGranted who r hr hgrant =>
    exact (actOnGrant_works _ who).capacity (h.congr rfl)
  | injected hst => exact m.injectSettled_works.capacity h
  | saved v hv => exact saveEnd_capacity h (hss ▸ hv)
  | watchBegun htimer =>
    refine (leaseRequest_works _ _).capacity (h.congr ?_)
    simp [burden]
  | northSent =>
    obtain ⟨hcmd, hreply, hnorth, hsouth, hsum⟩ := h
    exact ⟨hcmd, hreply, (tail_length_le _).trans hnorth, hsouth, hsum⟩
  | southSent who =>
    obtain ⟨hcmd, hreply, hnorth, hsouth, hsum⟩ := h
    cases who
    · exact ⟨hcmd, (tail_length_le _).trans hreply, hnorth, hsouth, hsum⟩
    · exact ⟨hcmd, hreply, hnorth, (tail_length_le _).trans hsouth, hsum⟩
  | silent hli =>
    exact h.congr (by simp [burden, linkSilence])
  | _ => exact h.congr (by simp [burden, abandon])

theorem Event.capacity {n m : Node} (hm : n.Event m) (h : n.CapacityLaw) : m.CapacityLaw := by
  have hcold : ∀ {m : Node}, m.ch.queues = ([], [], []) → m.li.north = [] → m.li.south = [] → m.CapacityLaw :=
    fun hqueues hnorth hsouth => by
      obtain ⟨hcmd, hreply, hpending⟩ := (CommandHandler.queues_eq_iff _ ⟨[], [], [], AlertReasons.none, none⟩).mp hqueues
      exact capacity_of_pending (by simp [hcmd]) (by simp [hreply]) (by simp [hnorth]) (by simp [hsouth]) hpending
  cases hm with
  | supplied dt => exact hcold (by simp [powerOnReset]; rfl) (by simp [powerOnReset]; rfl) (by simp [powerOnReset]; rfl)
  | broken dt => exact hcold rfl rfl rfl
  | unsupplied dt => exact hcold rfl rfl rfl
  | released dt hphase => exact h.congr (by simp [burden, elapse])
  | expiry t hdue he => exact he.capacity rfl h
  | symbol dt k y he =>
    exact he.capacity (h.congr (by simp [burden, elapse]))
  | command f rest ht he =>
    obtain ⟨hcmd, -, hnorth, hsouth, -⟩ := h
    obtain ⟨hq, -, hreply, hpending⟩ := ht
    refine he.capacity ⟨?_, hnorth, hsouth, hreply, hpending⟩
    rw [hq, List.length_cons] at hcmd
    exact (Nat.le_succ _).trans hcmd

theorem fillReplies_capacity {n : Node} (h : n.CapacityLaw) : n.fillReplies.CapacityLaw := by
  have hcap : Config.replyQueueCap = 4 := rfl
  obtain ⟨hcmd, hreply, hnorth, hsouth, hsum⟩ := h
  refine ⟨hcmd, ?_, hnorth, hsouth, ?_⟩
  · simp only [fillReplies, withCh_ch, List.length_append, List.length_map, List.length_take]
    omega
  · simp only [fillReplies, withCh_ch, withCh_mu, withCh_ss, List.length_drop]
    omega

theorem queueAlert_capacity {n : Node} (h : n.CapacityLaw) : n.queueAlert.CapacityLaw := by
  obtain ⟨hcmd, hreply, hnorth, hsouth, hsum⟩ := h
  unfold queueAlert
  split
  · rename_i hdue
    simp only [Bool.and_eq_true, replyFree, decide_eq_true_eq] at hdue
    obtain ⟨⟨-, hfree⟩, -⟩ := hdue
    refine ⟨hcmd, ?_, hnorth, hsouth, hsum⟩
    rw [withCh_ch, List.length_append]
    exact Nat.succ_le_of_lt hfree
  · exact ⟨hcmd, hreply, hnorth, hsouth, hsum⟩

theorem finish_capacity {n : Node} (h : n.CapacityLaw) : n.finish.CapacityLaw := by
  have hfilled : n.enforceOpen.fillReplies.CapacityLaw := fillReplies_capacity (n := n.enforceOpen) h
  have hqueued := queueAlert_capacity hfilled
  refine hqueued.congr ?_
  have hnorth : n.finish.li.north = n.li.north := (congrArg LinkInterface.north n.finish_li :)
  have hsouth : n.finish.li.south = n.li.south := (congrArg LinkInterface.south n.finish_li :)
  simp [burden, hnorth, hsouth]

end Node

/-- Settles O55: a completion reply finds the place its operation or save has kept. -/
theorem queuesKeepTheirCapacities : Obligations.QueuesKeepTheirCapacities := fun _ _ hs h =>
  step_keeps (P := fun n => n.CapacityLaw) (fun _ _ hn hm => Node.finish_capacity (hm.capacity hn)) hs h

end Sys2Proof.Machine
end

section
/-! SUPPORT. R80, R84: the shape of the Fault Table, kept by every raise, clear and removal, and the pairs that are ACTIVE
after each. A raise always finds room while at most 28 entries are ACTIVE. -/

namespace Sys2Proof.Machine

namespace FaultTable

/-- The pair of an entry (R80). -/
def pairs (l : List FaultEntry) : List (FaultKind × Nat) := l.map fun e => (e.kind, e.source)

/-- R79, R80: at most 32 entries, no two of one pair, each with a source its kind may have. -/
structure Formed (t : FaultTable) : Prop where
  cap : t.entries.length ≤ 32
  nodup : (pairs t.entries).Nodup
  other : ∀ e ∈ t.entries, e.otherSource = true

/-- R80: two entries of one pair are one. -/
theorem Formed.eq_of_pair {t : FaultTable} (h : t.Formed) {e d : FaultEntry} (he : e ∈ t.entries) (hd : d ∈ t.entries)
    (hkind : e.kind = d.kind) (hsource : e.source = d.source) : e = d :=
  List.inj_on_of_nodup_map h.nodup he hd (by rw [hkind, hsource])

theorem Formed.entries_nodup {t : FaultTable} (h : t.Formed) : t.entries.Nodup := .of_map _ h.nodup

/-! ### Clears and removals -/

/-- The entries of the pairs that `p` names are CLEARED (R82, R90, R94). -/
def clearedWhere (p : FaultKind → Nat → Bool) (t : FaultTable) : FaultTable :=
  { t with entries := t.entries.map fun e => if p e.kind e.source then { e with active := false } else e }

theorem clear_eq_clearedWhere (t : FaultTable) (k : FaultKind) (src : Nat) :
    t.clear k src = t.clearedWhere fun k' s => k' == k && s == src := rfl

/-- Entries changed without their pairs. -/
theorem Formed.map {t : FaultTable} (h : t.Formed) {g : FaultEntry → FaultEntry}
    (hg : ∀ e, (g e).kind = e.kind ∧ (g e).source = e.source) (k : Nat) : Formed { entries := t.entries.map g, evictions := k } := by
  refine ⟨by simpa using h.cap, ?_, fun e he => ?_⟩
  · have hpairs : pairs (t.entries.map g) = pairs t.entries := by
      unfold pairs
      rw [List.map_map]
      exact List.map_congr_left fun e _ => by simp [hg e]
    rw [hpairs]
    exact h.nodup
  · obtain ⟨d, hd, rfl⟩ := List.mem_map.mp he
    obtain ⟨hkind, hsource⟩ := hg d
    have hother := h.other d hd
    unfold FaultEntry.otherSource at hother ⊢
    rwa [hkind, hsource]

theorem Formed.clearedWhere {t : FaultTable} (h : t.Formed) (p : FaultKind → Nat → Bool) : (t.clearedWhere p).Formed :=
  h.map (fun e => by split <;> exact ⟨rfl, rfl⟩) _

theorem isActive_clearedWhere (t : FaultTable) (p : FaultKind → Nat → Bool) (k : FaultKind) (s : Nat) :
    (t.clearedWhere p).isActive k s = true ↔ t.isActive k s = true ∧ p k s = false := by
  simp only [Node.isActive_iff, FaultTable.clearedWhere, List.mem_map]
  constructor
  · rintro ⟨_, ⟨e, he, rfl⟩, hactive, hkind, hsource⟩
    split at hactive
    · cases hactive
    · rename_i hp
      rw [if_neg hp] at hkind hsource
      exact ⟨⟨e, he, hactive, hkind, hsource⟩, by simpa [hkind, hsource] using hp⟩
  · rintro ⟨⟨e, he, hactive, rfl, rfl⟩, hp⟩
    exact ⟨e, ⟨e, he, by simp [hp]⟩, hactive, rfl, rfl⟩

/-- Some entries removed. -/
theorem Formed.sublist {t : FaultTable} (h : t.Formed) {l : List FaultEntry} (hl : l.Sublist t.entries) (k : Nat) :
    Formed { entries := l, evictions := k } :=
  ⟨hl.length_le.trans h.cap, (hl.map _).nodup h.nodup, fun e he => h.other e (hl.subset he)⟩

/-- R87, R88: the removal of CLEARED entries leaves the ACTIVE ones. -/
theorem isActive_filter {t : FaultTable} {p : FaultEntry → Bool} (hp : ∀ e ∈ t.entries, e.active = true → p e = true)
    (i : Nat) (k : FaultKind) (s : Nat) :
    isActive { entries := t.entries.filter p, evictions := i } k s = true ↔ t.isActive k s = true := by
  simp only [Node.isActive_iff, List.mem_filter]
  constructor
  · rintro ⟨e, ⟨he, -⟩, hrest⟩
    exact ⟨e, he, hrest⟩
  · rintro ⟨e, he, hactive, hpair⟩
    exact ⟨e, ⟨he, hp e he hactive⟩, hactive, hpair⟩

/-! ### Raises -/

/-- R84: with a CLEARED entry to lose, a new entry finds its place. -/
theorem create_entries {t : FaultTable} (hcap : t.entries.length ≤ 32) (hcount : t.activeCount ≤ 28) (x : FaultEntry) :
    ∃ l, (t.create x).entries = l ++ [x] ∧ l.Sublist t.entries ∧ l.length < 32
      ∧ ∀ e, e.active = true → (e ∈ l ↔ e ∈ t.entries) := by
  by_cases hroom : t.entries.length < 32
  · exact ⟨t.entries, by rw [create_of_room hroom], .refl _, hroom, fun e _ => Iff.rfl⟩
  · have hfull : t.entries.length = 32 := hcap.antisymm (Nat.not_lt.mp hroom)
    have hcleared : ∃ e, t.entries.find? (fun e => !e.active) = some e := by
      refine Option.ne_none_iff_exists'.mp fun hnone => ?_
      have hall : ∀ e ∈ t.entries, e.active = true := by simpa using hnone
      have hevery : t.activeCount = t.entries.length := List.countP_eq_length.mpr hall
      omega
    obtain ⟨e, he⟩ := hcleared
    have hinactive : e.active = false := by simpa using List.find?_some he
    refine ⟨t.entries.erase e, by rw [create_of_full hfull he], List.erase_sublist, ?_, fun d hd => ?_⟩
    · rw [List.length_erase_of_mem (List.mem_of_find?_eq_some he), hfull]
      decide
    · refine List.mem_erase_of_ne ?_
      rintro rfl
      rw [hinactive] at hd
      cases hd

/-- R81, R84: a raise keeps the shape of the table. -/
theorem Formed.raise {t : FaultTable} (h : t.Formed) (hcount : t.activeCount ≤ 28) {k : FaultKind} {src : Nat} (pass : Nat)
    (value : Option Int)
    (hother : ∀ e : FaultEntry, e.kind = k → e.source = src → e.otherSource = true) : (t.raise k src pass value).Formed := by
  by_cases hknown : ∃ e ∈ t.entries, e.kind = k ∧ e.source = src
  · rw [raise_of_known hknown]
    exact h.map (fun e => by split <;> exact ⟨rfl, rfl⟩) _
  · have hnew : ∀ e ∈ t.entries, ¬(e.kind = k ∧ e.source = src) := by simpa using hknown
    rw [raise_of_new hnew]
    obtain ⟨l, hl, hsub, hlen, -⟩ := create_entries h.cap hcount
      { kind := k, source := src, active := true, count := 1, first := pass, last := pass, value := value }
    refine ⟨?_, ?_, fun e he => ?_⟩
    · rw [hl, List.length_append]
      exact Nat.succ_le_of_lt hlen
    · rw [hl, pairs, List.map_append, List.nodup_append]
      refine ⟨(hsub.map _).nodup h.nodup, List.nodup_singleton _, ?_⟩
      intro a ha b hb hab
      obtain ⟨e, he, rfl⟩ := List.mem_map.mp ha
      have hpair : (e.kind, e.source) = (k, src) := hab.trans (List.mem_singleton.mp hb)
      obtain ⟨hkind, hsource⟩ := Prod.mk.injEq .. ▸ hpair
      exact hnew e (hsub.subset he) ⟨hkind, hsource⟩
    · rw [hl, List.mem_append, List.mem_singleton] at he
      rcases he with he | rfl
      · exact h.other e (hsub.subset he)
      · exact hother _ rfl rfl

/-- R81: after a raise its pair is ACTIVE, and the others as before. -/
theorem isActive_raise {t : FaultTable} (hcap : t.entries.length ≤ 32) (hcount : t.activeCount ≤ 28) (k : FaultKind)
    (src pass : Nat) (value : Option Int) (k' : FaultKind) (s : Nat) :
    (t.raise k src pass value).isActive k' s = true ↔ (k' = k ∧ s = src) ∨ t.isActive k' s = true := by
  by_cases hpair : k' = k ∧ s = src
  · obtain ⟨rfl, rfl⟩ := hpair
    refine iff_of_true ?_ (.inl ⟨rfl, rfl⟩)
    rw [Node.isActive_iff]
    by_cases hknown : ∃ e ∈ t.entries, e.kind = k' ∧ e.source = s
    · rw [raise_of_known hknown]
      obtain ⟨e, he, hkind, hsource⟩ := hknown
      exact ⟨_, List.mem_map_of_mem he, by simp [hkind, hsource]⟩
    · rw [raise_of_new (by simpa using hknown)]
      obtain ⟨l, hl, -⟩ := create_entries hcap hcount
        { kind := k', source := s, active := true, count := 1, first := pass, last := pass, value := value }
      rw [hl]
      exact ⟨_, List.mem_append_right _ (List.mem_singleton_self _), rfl, rfl, rfl⟩
  · rw [or_iff_right hpair, Node.isActive_iff, Node.isActive_iff]
    refine exists_congr fun e => and_congr_left fun ⟨hactive, hkind, hsource⟩ => ?_
    refine mem_raise hactive (fun hsame => hpair ?_) pass value
    exact ⟨hkind.symm.trans hsame.1, hsource.symm.trans hsame.2⟩

end FaultTable

end Sys2Proof.Machine
end

section
/-! SUPPORT. R68, 5.4: the ACTIVE entries of the limit kinds are those the limit states ask for. From that: each source has
one of them at most, so no more than 28 entries are ACTIVE. -/

namespace Sys2Proof.Machine

/-! ### The kinds of limit faults -/

theorem highKind_isLimit (src : Nat) : (highKind src).isLimit = true := by
  unfold highKind
  (repeat' split) <;> rfl

theorem lowKind_isLimit (src : Nat) : (lowKind src).isLimit = true := by
  unfold lowKind
  (repeat' split) <;> rfl

namespace LimitRec

theorem raises_of_normal {r : LimitRec} (h : r.st = .normal) (k : FaultKind) : r.raises k = false := by
  simp [raises, h]

theorem raises_of_high {r : LimitRec} (h : r.st = .high) (k : FaultKind) : r.raises k = true ↔ k = highKind r.source := by
  simp only [raises, h, beq_self_eq_true, Bool.true_and, Bool.or_eq_true, beq_iff_eq, reduceCtorEq, Bool.and_eq_true,
    false_and, or_false]
  exact eq_comm

theorem raises_of_low {r : LimitRec} (h : r.st = .low) (k : FaultKind) : r.raises k = true ↔ k = lowKind r.source := by
  simp only [raises, h, beq_self_eq_true, Bool.true_and, Bool.or_eq_true, beq_iff_eq, reduceCtorEq, Bool.and_eq_true,
    false_and, false_or]
  exact eq_comm

theorem raises_congr {r r' : LimitRec} (hst : r'.st = r.st) (hsource : r'.source = r.source) (k : FaultKind) :
    r'.raises k = r.raises k := by
  simp only [raises, hst, hsource]

end LimitRec

namespace FaultTable

/-- R68, R80: at most one ACTIVE LINE_OPEN, and the ACTIVE entries of the limit kinds are those of the limit states. -/
structure Agrees (t : FaultTable) (recs : List LimitRec) : Prop where
  line : ∀ s s', t.isActive .lineOpen s = true → t.isActive .lineOpen s' = true → s = s'
  limit : ∀ k, k.isLimit = true → ∀ r ∈ recs, (t.isActive k r.source = true ↔ r.raises k = true)
  source : ∀ k, k.isLimit = true → ∀ s, t.isActive k s = true → s ∈ sourceCodes

theorem countP_le_one_iff {l : List FaultEntry} (hl : l.Nodup) (p : FaultEntry → Bool) :
    l.countP p ≤ 1 ↔ ∀ e ∈ l, ∀ d ∈ l, p e = true → p d = true → e = d := by
  rw [List.countP_eq_length_filter]
  constructor
  · intro hlen e he d hd hpe hpd
    have hmem : ∀ x ∈ l, p x = true → x ∈ l.filter p := fun x hx hpx => List.mem_filter.mpr ⟨hx, hpx⟩
    have hme := hmem e he hpe
    have hmd := hmem d hd hpd
    generalize l.filter p = m at hlen hme hmd
    match m with
    | [] => cases hme
    | [x] => rw [List.mem_singleton.mp hme, List.mem_singleton.mp hmd]
    | x :: y :: rest => simp at hlen
  · intro hall
    have hone : ∀ e ∈ l.filter p, ∀ d ∈ l.filter p, e = d := fun e he d hd => by
      obtain ⟨he, hpe⟩ := List.mem_filter.mp he
      obtain ⟨hd, hpd⟩ := List.mem_filter.mp hd
      exact hall e he d hd hpe hpd
    have hnodup : (l.filter p).Nodup := hl.filter p
    generalize l.filter p = m at hone hnodup
    match m with
    | [] => exact Nat.zero_le _
    | [_] => exact le_rfl
    | x :: y :: rest =>
      have hxy : x = y := hone x (by simp) y (by simp)
      simp [hxy] at hnodup

theorem line_iff {t : FaultTable} (h : t.Formed) : (t.entries.countP fun e => e.kind == .lineOpen && e.active) ≤ 1
    ↔ ∀ s s', t.isActive .lineOpen s = true → t.isActive .lineOpen s' = true → s = s' := by
  rw [countP_le_one_iff h.entries_nodup]
  simp only [Node.isActive_iff, Bool.and_eq_true, beq_iff_eq]
  constructor
  · rintro hone s s' ⟨e, he, hactive, hkind, rfl⟩ ⟨d, hd, hactive', hkind', rfl⟩
    rw [hone e he d hd ⟨hkind, hactive⟩ ⟨hkind', hactive'⟩]
  · rintro hone e he d hd ⟨hkind, hactive⟩ ⟨hkind', hactive'⟩
    exact h.eq_of_pair he hd (hkind.trans hkind'.symm)
      (hone _ _ ⟨e, he, hactive, hkind, rfl⟩ ⟨d, hd, hactive', hkind', rfl⟩)

end FaultTable

/-- The table of records has one record for each source. -/
theorem eq_of_source {recs : List LimitRec} (h : recs.map LimitRec.source = sourceCodes) {r q : LimitRec} (hr : r ∈ recs)
    (hq : q ∈ recs) (hsource : r.source = q.source) : r = q := by
  have hnodup : (recs.map LimitRec.source).Nodup := by
    rw [h]
    exact List.nodup_range'
  exact List.inj_on_of_nodup_map hnodup hr hq hsource

namespace Node

/-- R68, R80: the laws of the Fault Table, by its shape and its ACTIVE pairs. -/
theorem faultLaws_iff (n : Node) :
    n.FaultLaws ↔ n.ft.Formed ∧ n.LimitTableLaw ∧ n.ft.Agrees n.lm.recs := by
  constructor
  · rintro ⟨⟨hcap, hnodup, hline⟩, htable, ⟨hstates, hentries⟩, hother⟩
    have hformed : n.ft.Formed := ⟨hcap, hnodup, hother⟩
    have hnamed : ∀ k, k.isLimit = true → ∀ s, n.ft.isActive k s = true → ∃ r ∈ n.lm.recs, r.source = s ∧ r.raises k = true :=
      fun k hk s hactive => by
        obtain ⟨e, he, hactive, rfl, rfl⟩ := (isActive_iff _ _ _).mp hactive
        exact hentries e he (by assumption) hk
    refine ⟨hformed, htable, ⟨(FaultTable.line_iff hformed).mp hline, fun k hk r hr => ⟨fun hactive => ?_, fun hraises => ?_⟩,
      fun k hk s hactive => ?_⟩⟩
    · obtain ⟨q, hq, hsource, hraises⟩ := hnamed k hk _ hactive
      rwa [← eq_of_source htable hq hr hsource]
    · obtain ⟨hhigh, hlow⟩ := hstates r hr
      cases hst : r.st with
      | normal => rw [LimitRec.raises_of_normal hst] at hraises; cases hraises
      | high => rw [(LimitRec.raises_of_high hst k).mp hraises]; exact hhigh hst
      | low => rw [(LimitRec.raises_of_low hst k).mp hraises]; exact hlow hst
    · obtain ⟨q, hq, rfl, -⟩ := hnamed k hk s hactive
      rw [← htable]
      exact List.mem_map_of_mem hq
  · rintro ⟨hformed, htable, ⟨hline, hlimit, hsource⟩⟩
    refine ⟨⟨hformed.cap, hformed.nodup, (FaultTable.line_iff hformed).mpr hline⟩, htable, ⟨fun r hr => ⟨fun hst => ?_,
      fun hst => ?_⟩, fun e he hactive hk => ?_⟩, hformed.other⟩
    · exact (hlimit _ (highKind_isLimit _) r hr).mpr ((LimitRec.raises_of_high hst _).mpr rfl)
    · exact (hlimit _ (lowKind_isLimit _) r hr).mpr ((LimitRec.raises_of_low hst _).mpr rfl)
    · have hpair : n.ft.isActive e.kind e.source = true := (isActive_iff _ _ _).mpr ⟨e, he, hactive, rfl, rfl⟩
      have hcode := hsource e.kind hk e.source hpair
      rw [← htable] at hcode
      obtain ⟨r, hr, hrs⟩ := List.mem_map.mp hcode
      exact ⟨r, hr, hrs, (hlimit e.kind hk r hr).mp (hrs ▸ hpair)⟩

end Node

/-! ### The count of ACTIVE entries (5.4) -/

/-- R68: the pair that the limit state of a record asks for when it is out. -/
def LimitRec.pair (r : LimitRec) : FaultKind × Nat :=
  (if r.st = .high then highKind r.source else lowKind r.source, r.source)

theorem LimitRec.pair_of_raises {r : LimitRec} {k : FaultKind} (h : r.raises k = true) : r.pair = (k, r.source) := by
  cases hst : r.st with
  | normal => rw [raises_of_normal hst] at h; cases h
  | high => simp [pair, hst, (raises_of_high hst k).mp h]
  | low => simp [pair, hst, (raises_of_low hst k).mp h]

/-- 5.4: the pairs that can be ACTIVE: one for each source, those of the other kinds, and one open line. -/
def activePairs (recs : List LimitRec) (line : Nat) : List (FaultKind × Nat) :=
  recs.map LimitRec.pair ++ [(.sumMismatch, 0), (.linkSilent, 0), (.storeInvalid, 0), (.trimRail, 1), (.trimRail, 2),
    (.trimRail, 3), (.lineOpen, line)]

namespace FaultTable

theorem Agrees.exists_line {t : FaultTable} {recs : List LimitRec} (h : t.Agrees recs) :
    ∃ line, ∀ s, t.isActive .lineOpen s = true → s = line := by
  by_cases hany : ∃ s, t.isActive .lineOpen s = true
  · obtain ⟨line, hline⟩ := hany
    exact ⟨line, fun s hs => h.line s line hs hline⟩
  · exact ⟨0, fun s hs => absurd ⟨s, hs⟩ hany⟩

/-- 5.4: an ACTIVE entry has one of these pairs. -/
theorem pair_of_active {t : FaultTable} {recs : List LimitRec} (hformed : t.Formed)
    (htable : recs.map LimitRec.source = sourceCodes) (hagrees : t.Agrees recs) {line : Nat}
    (hline : ∀ s, t.isActive .lineOpen s = true → s = line) {e : FaultEntry} (he : e ∈ t.entries)
    (hactive : e.active = true) : (e.kind, e.source) ∈ activePairs recs line := by
  have hpair : t.isActive e.kind e.source = true := (Node.isActive_iff _ _ _).mpr ⟨e, he, hactive, rfl, rfl⟩
  have hother := hformed.other e he
  refine List.mem_append.mpr ?_
  by_cases hk : e.kind.isLimit = true
  · have hcode := hagrees.source e.kind hk e.source hpair
    rw [← htable] at hcode
    obtain ⟨r, hr, hrs⟩ := List.mem_map.mp hcode
    have hraises := (hagrees.limit e.kind hk r hr).mp (hrs ▸ hpair)
    exact .inl (List.mem_map.mpr ⟨r, hr, hrs ▸ LimitRec.pair_of_raises hraises⟩)
  · refine .inr ?_
    cases hkind : e.kind with
    | sumMismatch => simp_all [FaultEntry.otherSource]
    | linkSilent => simp_all [FaultEntry.otherSource]
    | storeInvalid => simp_all [FaultEntry.otherSource]
    | trimRail =>
      have hrange : 1 ≤ e.source ∧ e.source ≤ 3 := by simpa [FaultEntry.otherSource, hkind] using hother
      have hthree : e.source = 1 ∨ e.source = 2 ∨ e.source = 3 := by omega
      simpa using hthree
    | lineOpen =>
      have hsame : e.source = line := hline _ (hkind ▸ hpair)
      simp [hsame]
    | _ => exact absurd (by rw [hkind]; rfl) hk

/-- 5.4: at most 28 entries are ACTIVE. -/
theorem activeCount_le {t : FaultTable} {recs : List LimitRec} (hformed : t.Formed)
    (htable : recs.map LimitRec.source = sourceCodes) (hagrees : t.Agrees recs) : t.activeCount ≤ 28 := by
  obtain ⟨line, hline⟩ := hagrees.exists_line
  have hnodup : (pairs (t.entries.filter fun e => e.active)).Nodup := (List.filter_sublist.map _).nodup hformed.nodup
  have hsub : pairs (t.entries.filter fun e => e.active) ⊆ activePairs recs line := fun x hx => by
    obtain ⟨e, he, rfl⟩ := List.mem_map.mp hx
    obtain ⟨he, hactive⟩ := List.mem_filter.mp he
    exact pair_of_active hformed htable hagrees hline he hactive
  have hsources : recs.length = 21 := by
    rw [← List.length_map LimitRec.source, htable]
    rfl
  have hlen := (List.subperm_of_subset hnodup hsub).length_le
  simpa [pairs, activePairs, hsources, activeCount, List.countP_eq_length_filter] using hlen

end FaultTable

theorem Node.FaultLaws.activeCount_le {n : Node} (h : n.FaultLaws) : n.ft.activeCount ≤ 28 := by
  obtain ⟨hformed, htable, hagrees⟩ := n.faultLaws_iff.mp h
  exact FaultTable.activeCount_le hformed htable hagrees

end Sys2Proof.Machine
end

section
/-! SUPPORT. R64 to R68: a judgement moves the limit state of its record and hands on the raise or the clear that keeps the
Fault Table in agreement; every other event raises and clears kinds that no limit state asks for. -/

namespace Sys2Proof.Machine

/-- R68: the pairs of a kind a verdict raises are ACTIVE, those it clears are not, for one source. -/
def Verdict.leaves (d : Verdict) (src : Nat) (k : FaultKind) (was : Prop) : Prop :=
  match d with
  | .nothing => was
  | .raiseHigh => k = highKind src ∨ was
  | .raiseLow => k = lowKind src ∨ was
  | .clearHigh => was ∧ k ≠ highKind src
  | .clearLow => was ∧ k ≠ lowKind src

theorem Verdict.leaves_of_other {d : Verdict} {src : Nat} {k : FaultKind} (hk : k.isLimit = false) {was : Prop} :
    d.leaves src k was ↔ was := by
  have hhigh : k ≠ highKind src := fun h => by
    rw [h, highKind_isLimit] at hk
    cases hk
  have hlow : k ≠ lowKind src := fun h => by
    rw [h, lowKind_isLimit] at hk
    cases hk
  cases d <;> simp [Verdict.leaves, hhigh, hlow]

/-- R65 to R67: what a judgement makes of the limit state, and what it hands on. -/
theorem LimitRec.judge_cases (r : LimitRec) (v : Int) :
    ((r.judge v).1.st = r.st ∧ (r.judge v).2 = .nothing)
      ∨ (r.st ≠ .low ∧ (r.judge v).1.st = .high ∧ (r.judge v).2 = .raiseHigh)
      ∨ (r.st ≠ .high ∧ (r.judge v).1.st = .low ∧ (r.judge v).2 = .raiseLow)
      ∨ (r.st = .high ∧ (r.judge v).1.st = .normal ∧ (r.judge v).2 = .clearHigh)
      ∨ (r.st = .low ∧ (r.judge v).1.st = .normal ∧ (r.judge v).2 = .clearLow) := by
  cases hst : r.st with
  | normal =>
    rw [judge_of_normal hst]
    unfold LimitRec.judgeNormal
    (repeat' split) <;> simp [hst]
  | high =>
    rw [judge_of_high hst]
    unfold LimitRec.judgeOut
    (repeat' split) <;> simp [hst]
  | low =>
    rw [judge_of_low hst]
    unfold LimitRec.judgeOut
    (repeat' split) <;> simp [hst]

/-- R68: the verdict turns the pairs the record asked for into those it asks for now. -/
theorem LimitRec.judge_leaves (r : LimitRec) (v : Int) {k : FaultKind} {was : Prop} (h : was ↔ r.raises k = true) :
    (r.judge v).2.leaves r.source k was ↔ (r.judge v).1.raises k = true := by
  have hsource := r.judge_source v
  rcases r.judge_cases v with ⟨hst, hd⟩ | ⟨hold, hst, hd⟩ | ⟨hold, hst, hd⟩ | ⟨hold, hst, hd⟩ | ⟨hold, hst, hd⟩
  · rw [hd, raises_congr hst hsource]
    exact h
  · rw [hd, raises_of_high hst, hsource]
    refine or_iff_left_of_imp fun hwas => ?_
    cases hr : r.st with
    | normal => rw [h, raises_of_normal hr] at hwas; cases hwas
    | high => exact (raises_of_high hr k).mp (h.mp hwas)
    | low => exact absurd hr hold
  · rw [hd, raises_of_low hst, hsource]
    refine or_iff_left_of_imp fun hwas => ?_
    cases hr : r.st with
    | normal => rw [h, raises_of_normal hr] at hwas; cases hwas
    | high => exact absurd hr hold
    | low => exact (raises_of_low hr k).mp (h.mp hwas)
  · rw [hd, raises_of_normal hst]
    refine iff_of_false (fun ⟨hwas, hne⟩ => hne ?_) Bool.false_ne_true
    exact (raises_of_high hold k).mp (h.mp hwas)
  · rw [hd, raises_of_normal hst]
    refine iff_of_false (fun ⟨hwas, hne⟩ => hne ?_) Bool.false_ne_true
    exact (raises_of_low hold k).mp (h.mp hwas)

namespace FaultTable

/-- R68: the Fault Table after a verdict of the Limit Monitor. -/
def judged (t : FaultTable) (src pass : Nat) (v : Int) : Verdict → FaultTable
  | .nothing => t
  | .raiseHigh => t.raise (highKind src) src pass (some v)
  | .raiseLow => t.raise (lowKind src) src pass (some v)
  | .clearHigh => t.clear (highKind src) src
  | .clearLow => t.clear (lowKind src) src

theorem otherSource_of_limit {e : FaultEntry} (h : e.kind.isLimit = true) : e.otherSource = true := by
  unfold FaultEntry.otherSource
  cases hk : e.kind with
  | sumMismatch => rw [hk] at h; cases h
  | linkSilent => rw [hk] at h; cases h
  | storeInvalid => rw [hk] at h; cases h
  | trimRail => rw [hk] at h; cases h
  | _ => rfl

theorem Formed.clear {t : FaultTable} (h : t.Formed) (k : FaultKind) (src : Nat) : (t.clear k src).Formed := by
  rw [clear_eq_clearedWhere]
  exact h.clearedWhere _

theorem isActive_clear (t : FaultTable) (k : FaultKind) (src : Nat) (k' : FaultKind) (s : Nat) :
    (t.clear k src).isActive k' s = true ↔ t.isActive k' s = true ∧ ¬(k' = k ∧ s = src) := by
  rw [clear_eq_clearedWhere, isActive_clearedWhere]
  refine and_congr_right fun _ => ?_
  simp

theorem Formed.judged {t : FaultTable} (h : t.Formed) (hcount : t.activeCount ≤ 28) (src pass : Nat) (v : Int)
    (d : Verdict) : (t.judged src pass v d).Formed := by
  have hraise : ∀ k : FaultKind, k.isLimit = true → (t.raise k src pass (some v)).Formed := fun k hk =>
    h.raise hcount pass (some v) fun e he _ => otherSource_of_limit (he ▸ hk)
  cases d with
  | nothing => exact h
  | raiseHigh => exact hraise _ (highKind_isLimit src)
  | raiseLow => exact hraise _ (lowKind_isLimit src)
  | clearHigh => exact h.clear _ _
  | clearLow => exact h.clear _ _

/-- R68: the ACTIVE pairs after a verdict: those of other sources as before. -/
theorem isActive_judged {t : FaultTable} (hcap : t.entries.length ≤ 32) (hcount : t.activeCount ≤ 28) (src pass : Nat)
    (v : Int) (d : Verdict) (k : FaultKind) (s : Nat) : (t.judged src pass v d).isActive k s = true
      ↔ if s = src then d.leaves src k (t.isActive k s = true) else t.isActive k s = true := by
  by_cases hs : s = src
  · subst hs
    rw [if_pos rfl]
    cases d with
    | nothing => exact Iff.rfl
    | raiseHigh => simp [judged, Verdict.leaves, isActive_raise hcap hcount]
    | raiseLow => simp [judged, Verdict.leaves, isActive_raise hcap hcount]
    | clearHigh => simp [judged, Verdict.leaves, isActive_clear]
    | clearLow => simp [judged, Verdict.leaves, isActive_clear]
  · rw [if_neg hs]
    cases d with
    | nothing => exact Iff.rfl
    | raiseHigh => simp [judged, isActive_raise hcap hcount, hs]
    | raiseLow => simp [judged, isActive_raise hcap hcount, hs]
    | clearHigh => simp [judged, isActive_clear, hs]
    | clearLow => simp [judged, isActive_clear, hs]

/-- R68: a verdict on the record of a source keeps the agreement. -/
theorem Agrees.judged {t : FaultTable} {m : LimitMonitor} (h : t.Agrees m.recs)
    (htable : m.recs.map LimitRec.source = sourceCodes) (hcap : t.entries.length ≤ 32) (hcount : t.activeCount ≤ 28)
    {r : LimitRec} (hr : r ∈ m.recs) (pass : Nat) (v : Int) :
    (t.judged r.source pass v (r.judge v).2).Agrees (m.modify r.source fun r => (r.judge v).1).recs := by
  have hactive := isActive_judged hcap hcount r.source pass v (r.judge v).2
  have hline : ∀ s, (t.judged r.source pass v (r.judge v).2).isActive .lineOpen s = true → t.isActive .lineOpen s = true :=
    fun s hs => by
      rw [hactive, Verdict.leaves_of_other rfl, ite_self] at hs
      exact hs
  refine ⟨fun s s' hs hs' => h.line s s' (hline s hs) (hline s' hs'), fun k hk x hx => ?_, fun k hk s hs => ?_⟩
  · obtain ⟨q, hq, rfl⟩ := List.mem_map.mp hx
    by_cases hsame : q.source = r.source
    · rw [eq_of_source htable hq hr hsame]
      simp only [beq_self_eq_true, if_true]
      rw [hactive, LimitRec.judge_source, if_pos rfl]
      exact r.judge_leaves v (h.limit k hk r hr)
    · simp only [beq_iff_eq, hsame, if_false]
      rw [hactive, if_neg hsame]
      exact h.limit k hk q hq
  · by_cases hsame : s = r.source
    · rw [hsame, ← htable]
      exact List.mem_map_of_mem hr
    · rw [hactive, if_neg hsame] at hs
      exact h.source k hk s hs

/-- Records whose limit states are as before. -/
theorem Agrees.map {t t' : FaultTable} {recs : List LimitRec} (h : t.Agrees recs)
    (ht : ∀ k s, t'.isActive k s = true ↔ t.isActive k s = true) {g : LimitRec → LimitRec}
    (hg : ∀ r, (g r).source = r.source ∧ (g r).st = r.st) : t'.Agrees (recs.map g) := by
  refine ⟨fun s s' hs hs' => h.line s s' ((ht _ _).mp hs) ((ht _ _).mp hs'), fun k hk r hr => ?_,
    fun k hk s hs => h.source k hk s ((ht _ _).mp hs)⟩
  obtain ⟨q, hq, rfl⟩ := List.mem_map.mp hr
  obtain ⟨hsource, hst⟩ := hg q
  rw [ht, hsource, LimitRec.raises_congr hst hsource]
  exact h.limit k hk q hq

/-- Raises and clears of kinds that no limit state asks for. -/
theorem Agrees.of_other {t t' : FaultTable} {recs : List LimitRec} (h : t.Agrees recs)
    (hlimit : ∀ k, k.isLimit = true → ∀ s, t'.isActive k s = true ↔ t.isActive k s = true)
    (hline : ∀ s s', t'.isActive .lineOpen s = true → t'.isActive .lineOpen s' = true → s = s') : t'.Agrees recs :=
  ⟨hline, fun k hk r hr => (hlimit k hk _).trans (h.limit k hk r hr),
    fun k hk s hs => h.source k hk s ((hlimit k hk s).mp hs)⟩

end FaultTable

namespace Node

@[simp] theorem raiseFault_ft (n : Node) (k : FaultKind) (src pass : Nat) (v : Option Int) :
    (n.raiseFault k src pass v).ft = n.ft.raise k src pass v := by
  rw [raiseFault_eq]
  rfl

theorem FaultLaws.congr {n m : Node} (h : n.FaultLaws) (hft : m.ft.entries = n.ft.entries)
    (hrecs : m.lm.recs = n.lm.recs) : m.FaultLaws := by
  unfold FaultLaws FaultTableLaw LimitTableLaw LimitFaultLaw FaultTable.isActive
  rw [hft, hrecs]
  exact h

/-- Records whose limit states are as before, with the table as it was. -/
theorem FaultLaws.map {n m : Node} (h : n.FaultLaws) (hft : m.ft = n.ft) {g : LimitRec → LimitRec}
    (hg : ∀ r, (g r).source = r.source ∧ (g r).st = r.st) (hrecs : m.lm.recs = n.lm.recs.map g) : m.FaultLaws := by
  obtain ⟨hformed, htable, hagrees⟩ := n.faultLaws_iff.mp h
  refine m.faultLaws_iff.mpr ⟨hft ▸ hformed, ?_, ?_⟩
  · unfold LimitTableLaw
    rw [hrecs, map_source_map fun r => (hg r).1]
    exact htable
  · rw [hft, hrecs]
    exact hagrees.map (fun _ _ => Iff.rfl) hg

theorem judge_eq {n : Node} {src : Nat} {r : LimitRec} (hr : n.lm.find src = some r) (pass : Nat) (v : Int) :
    (n.judge src pass v).ft = n.ft.judged src pass v (r.judge v).2
      ∧ (n.judge src pass v).lm = n.lm.modify src fun r => (r.judge v).1 := by
  unfold judge
  rw [hr]
  dsimp only
  unfold applyVerdict
  cases (r.judge v).2 <;> simp [FaultTable.judged, clearFault]

/-- R64 to R68: a judgement keeps the table in agreement with the limit states. -/
theorem judge_faults {n : Node} (h : n.FaultLaws) (src pass : Nat) (v : Int) : (n.judge src pass v).FaultLaws := by
  cases hfind : n.lm.find src with
  | none =>
    unfold judge
    rw [hfind]
    exact h
  | some r =>
    have hcount := h.activeCount_le
    obtain ⟨hformed, htable, hagrees⟩ := n.faultLaws_iff.mp h
    obtain ⟨hft, hlm⟩ := judge_eq hfind pass v
    have hr : r ∈ n.lm.recs := List.mem_of_find?_eq_some hfind
    have hsrc : r.source = src := by simpa using List.find?_some hfind
    subst hsrc
    have hactive := FaultTable.isActive_judged hformed.cap hcount r.source pass v (r.judge v).2
    refine (Node.faultLaws_iff _).mpr ⟨hft ▸ hformed.judged hcount _ _ _ _, ?_, ?_⟩
    · unfold LimitTableLaw
      rw [judge_sources]
      exact htable
    · rw [hft, hlm]
      exact hagrees.judged htable hformed.cap hcount hr pass v

end Node

end Sys2Proof.Machine
end

section
/-! SUPPORT. R68, R80: what every event leaves of the laws of the Fault Table. -/

namespace Sys2Proof.Machine

namespace Node

/-! ### Raises and clears of the other kinds -/

theorem LimitTableLaw.congr {n m : Node} (h : n.LimitTableLaw) (hlm : m.lm.recs = n.lm.recs) : m.LimitTableLaw :=
  (congrArg (List.map LimitRec.source) hlm).trans h

/-- A table changed in entries that are not ACTIVE. -/
theorem FaultLaws.of_active {n m : Node} (h : n.FaultLaws) (hformed : m.ft.Formed)
    (hactive : ∀ k s, m.ft.isActive k s = true ↔ n.ft.isActive k s = true) (hlm : m.lm.recs = n.lm.recs) :
    m.FaultLaws := by
  obtain ⟨-, htable, hagrees⟩ := n.faultLaws_iff.mp h
  refine m.faultLaws_iff.mpr ⟨hformed, htable.congr hlm, ?_⟩
  rw [hlm]
  exact hagrees.of_other (fun k _ s => hactive k s) fun s s' hs hs' =>
    hagrees.line s s' ((hactive _ _).mp hs) ((hactive _ _).mp hs')

/-- R82: clears of kinds that no limit state asks for. -/
theorem clearedWhere_faults {n m : Node} (h : n.FaultLaws) {p : FaultKind → Nat → Bool}
    (hp : ∀ k, k.isLimit = true → ∀ s, p k s = false) (hft : m.ft = n.ft.clearedWhere p) (hlm : m.lm.recs = n.lm.recs) :
    m.FaultLaws := by
  obtain ⟨hformed, htable, hagrees⟩ := n.faultLaws_iff.mp h
  have hactive := n.ft.isActive_clearedWhere p
  refine m.faultLaws_iff.mpr ⟨hft ▸ hformed.clearedWhere p, htable.congr hlm, ?_⟩
  rw [hft, hlm]
  refine hagrees.of_other (fun k hk s => ?_) fun s s' hs hs' => ?_
  · rw [hactive]
    exact and_iff_left (hp k hk s)
  · exact hagrees.line s s' ((hactive _ _).mp hs).1 ((hactive _ _).mp hs').1

theorem clear_faults {n m : Node} (h : n.FaultLaws) {k : FaultKind} (hk : k.isLimit = false) {src : Nat}
    (hft : m.ft = n.ft.clear k src) (hlm : m.lm.recs = n.lm.recs) : m.FaultLaws := by
  refine clearedWhere_faults h (fun k' hk' s => ?_) (hft.trans (FaultTable.clear_eq_clearedWhere _ _ _)) hlm
  have hne : k' ≠ k := by
    rintro rfl
    rw [hk] at hk'
    cases hk'
  simp [hne]

/-- R81: a raise of a kind that no limit state asks for; a raise of LINE_OPEN when no other line is open. -/
theorem raise_faults {n m : Node} (h : n.FaultLaws) {k : FaultKind} (hk : k.isLimit = false) {src pass : Nat}
    {v : Option Int} (hother : ∀ e : FaultEntry, e.kind = k → e.source = src → e.otherSource = true)
    (hline : k = .lineOpen → ∀ s, n.ft.isActive .lineOpen s = true → s = src)
    (hft : m.ft = n.ft.raise k src pass v) (hlm : m.lm.recs = n.lm.recs) : m.FaultLaws := by
  have hcount := h.activeCount_le
  obtain ⟨hformed, htable, hagrees⟩ := n.faultLaws_iff.mp h
  have hactive := FaultTable.isActive_raise hformed.cap hcount k src pass v
  refine m.faultLaws_iff.mpr ⟨hft ▸ hformed.raise hcount pass v hother, htable.congr hlm, ?_⟩
  rw [hft, hlm]
  refine hagrees.of_other (fun k' hk' s => ?_) fun s s' hs hs' => ?_
  · rw [hactive]
    refine or_iff_right ?_
    rintro ⟨rfl, -⟩
    rw [hk] at hk'
    cases hk'
  · rw [hactive] at hs hs'
    by_cases hkind : k = .lineOpen
    · have hsrc : ∀ s, (FaultKind.lineOpen = k ∧ s = src) ∨ n.ft.isActive .lineOpen s = true → s = src :=
        fun s hs => hs.elim And.right (hline hkind s)
      exact (hsrc s hs).trans (hsrc s' hs').symm
    · exact hagrees.line s s' (hs.resolve_left fun hs => hkind hs.1.symm) (hs'.resolve_left fun hs => hkind hs.1.symm)

theorem otherSource_zero {e : FaultEntry} (hkind : e.kind = .sumMismatch ∨ e.kind = .linkSilent ∨ e.kind = .storeInvalid)
    (hsource : e.source = 0) : e.otherSource = true := by
  rcases hkind with hkind | hkind | hkind <;> simp [FaultEntry.otherSource, hkind, hsource]

/-! ### The moves of the clients -/

theorem writeResult_faults {n : Node} (h : n.FaultLaws) (w : ResultWrite) : (n.writeResult w).FaultLaws := by
  have hnoted : (n.lm.note w.source).recs = n.lm.recs := by
    unfold LimitMonitor.note
    split <;> rfl
  have hwritten : ((n.withRt (modifyRecord n.rt w.source fun r => r.write w n.seq.epoch)).withLm
      (n.lm.note w.source)).FaultLaws := h.congr rfl hnoted
  exact judge_faults hwritten w.source w.pass w.value

theorem plausibility_faults {n : Node} (h : n.FaultLaws) (pass : Nat) : (n.plausibility pass).FaultLaws := by
  unfold plausibility
  split
  · split
    · exact raise_faults h rfl (fun e he hs => otherSource_zero (.inl he) hs) (fun hk => by cases hk) (raiseFault_ft ..)
        (by simp)
    · exact clear_faults h rfl rfl rfl
  · exact h

theorem railOutcome_faults {n : Node} (h : n.FaultLaws) (r : Range) (u : BitVec 6) : (n.railOutcome r u).FaultLaws := by
  unfold railOutcome
  split
  · refine raise_faults h rfl (fun e he hs => ?_) (fun hk => by cases hk) (raiseFault_ft ..) (by simp)
    cases r <;> simp [FaultEntry.otherSource, he, hs, Range.number]
  · exact clear_faults h rfl rfl rfl

theorem clearLines_faults {n : Node} (h : n.FaultLaws) (keep : Option Nat) : (n.clearLines keep).FaultLaws :=
  clearedWhere_faults h (p := fun k s => k == .lineOpen && keep != some s) (fun k hk s => by cases k <;> simp_all [FaultKind.isLimit])
    rfl rfl

/-- R90: once the other lines are cleared, the raise leaves one ACTIVE LINE_OPEN. -/
theorem lineOpened_faults {n : Node} (h : n.FaultLaws) (line pass : Nat) :
    ((n.clearLines (some line)).raiseFault .lineOpen line pass none).FaultLaws := by
  refine raise_faults (clearLines_faults h (some line)) rfl (fun e he _ => ?_) (fun _ s hs => ?_) (raiseFault_ft ..) (by simp)
  · simp [FaultEntry.otherSource, he]
  · have hft : (n.clearLines (some line)).ft = n.ft.clearedWhere fun k s => k == .lineOpen && some line != some s := rfl
    rw [hft, FaultTable.isActive_clearedWhere] at hs
    obtain ⟨-, hkept⟩ := hs
    have hsame : line = s := by simpa using hkept
    exact hsame.symm

theorem Move.faults {n m : Node} (hm : n.Move m) (h : n.FaultLaws) : m.FaultLaws := by
  cases hm with
  | resultWritten w => exact writeResult_faults h w
  | passChecked pass => exact plausibility_faults h pass
  | railJudged r u => exact railOutcome_faults h r u
  | linesCleared => exact clearLines_faults h none
  | lineOpened line pass => exact lineOpened_faults h line pass
  | operationEnded hop b reply => cases b <;> exact h.congr (by simp) (by simp)
  | _ => exact h.congr rfl rfl

theorem Works.faults {n m : Node} (hm : n.Works m) (h : n.FaultLaws) : m.FaultLaws :=
  hm.keeps (P := fun n => n.FaultLaws) (fun _ _ => Move.faults) h

/-! ### The link silence timer -/

@[simp] theorem silenceRestart_ft (n : Node) : n.silenceRestart.ft = n.ft.clear .linkSilent 0 := rfl

@[simp] theorem frameWake_ft (n : Node) : n.frameWake.ft = n.ft.clear .linkSilent 0 := by
  simp [frameWake]

theorem silent_faults {n m : Node} (h : n.FaultLaws) (hft : m.ft = n.ft.clear .linkSilent 0)
    (hlm : m.lm.recs = n.lm.recs) : m.FaultLaws := clear_faults h rfl hft hlm

theorem watchDecide_faults {n : Node} (h : n.FaultLaws) : n.watchDecide.FaultLaws := by
  unfold watchDecide
  split
  · split
    · exact silent_faults h (by simp) (by simp)
    · exact h.congr (by simp) (by simp)
  · exact h
  · exact h

theorem enqueueCommand_faults {n : Node} (h : n.FaultLaws) (f : Frame) : (n.enqueueCommand f).FaultLaws := by
  unfold enqueueCommand
  split
  · dsimp only
    split
    · exact h
    · exact silent_faults h (by simp) (by simp)
    · exact silent_faults h (by simp) (by simp)
  · dsimp only
    split
    · exact h
    · exact silent_faults h (by simp) (by simp)
    · exact h

theorem enterStandby_faults {n : Node} (h : n.FaultLaws) : n.enterStandby.FaultLaws := by
  have hasleep : n.asleep.FaultLaws := (n.seqStop_works.faults h).congr (by simp [asleep]) (by simp [asleep])
  rw [enterStandby_eq]
  split
  · exact hasleep
  · exact silent_faults hasleep (by simp) (by simp)

/-! ### Limit configurations and the population -/

theorem write_faults {n : Node} (h : n.FaultLaws) (srcs : List Nat) (cfg : Nat → LimitCfg) :
    (n.withLm (n.lm.write srcs cfg)).FaultLaws :=
  h.map rfl (fun r => by split <;> exact ⟨rfl, rfl⟩) rfl

theorem loadLimits_faults {n : Node} (h : n.FaultLaws) (cfg : Nat → LimitCfg) : (n.loadLimits cfg).FaultLaws :=
  h.map rfl (fun r => by split <;> exact ⟨rfl, rfl⟩) rfl

theorem isCell_of_aboveCell {v s : Nat} (h : aboveCell v s = true) : s ≤ 14 := by
  simp only [aboveCell, isCell, Bool.and_eq_true, decide_eq_true_eq] at h
  omega

/-- R68: the limit states of a cell raise CELL_HIGH and CELL_LOW. -/
theorem cellKind_of_raises {r : LimitRec} (hcell : r.source ≤ 14) {k : FaultKind} (h : r.raises k = true) :
    k = .cellHigh ∨ k = .cellLow := by
  cases hst : r.st with
  | normal => rw [LimitRec.raises_of_normal hst] at h; cases h
  | high => exact .inl (((LimitRec.raises_of_high hst k).mp h).trans (if_pos hcell))
  | low => exact .inr (((LimitRec.raises_of_low hst k).mp h).trans (if_pos hcell))

/-- R75, R94: the cells above the population are NORMAL, and their limit entries are not ACTIVE. -/
theorem changePopulation_faults {n : Node} (h : n.FaultLaws) (v : Nat) : (n.changePopulation v).FaultLaws := by
  obtain ⟨hformed, htable, hagrees⟩ := n.faultLaws_iff.mp h
  have hft : (n.changePopulation v).ft
      = n.ft.clearedWhere fun k s => (k == .cellHigh || k == .cellLow) && aboveCell v s := rfl
  have hactive := n.ft.isActive_clearedWhere fun k s => (k == .cellHigh || k == .cellLow) && aboveCell v s
  have hrecs : (n.changePopulation v).lm.recs
      = n.lm.recs.map fun r => if aboveCell v r.source then { r.zeroCounts with st := .normal } else r := rfl
  have hsource : ∀ r : LimitRec,
      (if aboveCell v r.source then { r.zeroCounts with st := .normal } else r).source = r.source :=
    fun r => by split <;> rfl
  refine (Node.faultLaws_iff _).mpr ⟨hft ▸ hformed.clearedWhere _, ?_, ?_⟩
  · unfold LimitTableLaw
    rw [hrecs, map_source_map hsource]
    exact htable
  · rw [hft, hrecs]
    refine ⟨fun s s' hs hs' => hagrees.line s s' ((hactive _ _).mp hs).1 ((hactive _ _).mp hs').1, fun k hk x hx => ?_,
      fun k hk s hs => hagrees.source k hk s ((hactive _ _).mp hs).1⟩
    obtain ⟨r, hr, rfl⟩ := List.mem_map.mp hx
    rw [hactive, hsource]
    by_cases habove : aboveCell v r.source = true
    · simp only [habove, if_true]
      rw [LimitRec.raises_of_normal rfl]
      refine iff_of_false (fun ⟨hwas, hkept⟩ => ?_) Bool.false_ne_true
      have hcell := cellKind_of_raises (isCell_of_aboveCell habove) ((hagrees.limit k hk r hr).mp hwas)
      rcases hcell with rfl | rfl <;> simp at hkept
    · simp only [habove, Bool.and_false, and_true]
      exact hagrees.limit k hk r hr

theorem applyLoad_faults {n : Node} (h : n.FaultLaws) : n.applyLoad.FaultLaws := by
  unfold applyLoad
  split
  · rename_i im _
    exact (loadLimits_faults h fun s => im.limits.getD (s - 1) (LimitCfg.factory s)).congr rfl rfl
  · exact raise_faults (loadLimits_faults h LimitCfg.factory) rfl (fun e he hs => otherSource_zero (.inr (.inr he)) hs)
      (fun hk => by cases hk) (raiseFault_ft ..) (by simp [loadLimits])

/-- A node without entries whose limit states are NORMAL. -/
theorem faults_of_empty {n : Node} (hft : n.ft.entries = []) (htable : n.LimitTableLaw)
    (hst : ∀ r ∈ n.lm.recs, r.st = .normal) : n.FaultLaws := by
  refine ⟨⟨by simp [hft], by simp [hft], by simp [hft]⟩, htable, ⟨fun r hr => ?_, by simp [hft]⟩, by simp [hft]⟩
  simp [hst r hr]

theorem softReset_faults {n : Node} (h : n.FaultLaws) : n.softReset.FaultLaws := by
  obtain ⟨-, htable, -⟩ := h
  obtain ⟨-, -, -, -, -, -, -, hlm, hft, -⟩ := softReset_left n
  have hrecs : n.softReset.lm.recs = n.lm.recs.map fun r => { r.zeroCounts with st := .normal } :=
    (congrArg LimitMonitor.recs hlm :)
  have hsource : ∀ r : LimitRec, ({ r.zeroCounts with st := .normal } : LimitRec).source = r.source := fun _ => rfl
  refine faults_of_empty (by rw [hft]) ?_ fun r hr => ?_
  · unfold LimitTableLaw
    rw [hrecs, map_source_map hsource]
    exact htable
  · rw [hrecs] at hr
    obtain ⟨q, -, rfl⟩ := List.mem_map.mp hr
    rfl

theorem acknowledged_faults {n : Node} (h : n.FaultLaws) {k : FaultKind} {src : Nat} {e : FaultEntry}
    (he : n.ft.find k src = some e) (hactive : e.active = false) : (n.withFt (n.ft.remove k src)).FaultLaws := by
  obtain ⟨hformed, -⟩ := n.faultLaws_iff.mp h
  have hmem : e ∈ n.ft.entries := List.mem_of_find?_eq_some he
  have hpair : e.kind = k ∧ e.source = src := by simpa using List.find?_some he
  have hkept : ∀ d ∈ n.ft.entries, d.active = true → (!(d.kind == k && d.source == src)) = true := fun d hd hdactive => by
    simp only [Bool.not_eq_true', Bool.and_eq_false_iff, beq_eq_false_iff_ne]
    refine not_and_or.mp fun ⟨hkind, hsource⟩ => ?_
    have hsame := hformed.eq_of_pair hd hmem (hkind.trans hpair.1.symm) (hsource.trans hpair.2.symm)
    rw [hsame, hactive] at hdactive
    cases hdactive
  exact h.of_active (hformed.sublist List.filter_sublist _) (FaultTable.isActive_filter hkept _) rfl

theorem dropCleared_faults {n : Node} (h : n.FaultLaws) : (n.withFt n.ft.dropCleared).FaultLaws := by
  obtain ⟨hformed, -⟩ := n.faultLaws_iff.mp h
  exact h.of_active (hformed.sublist List.filter_sublist _) (FaultTable.isActive_filter (fun _ _ hactive => hactive) _) rfl

/-! ### The events -/

theorem Taken.faults {f : Frame} {n m : Node} (hm : n.Taken f m) (h : n.FaultLaws) : m.FaultLaws := by
  have hanswer : ∀ {m : Node}, m.FaultLaws → ∀ (st : Status) (data : List Byte), (m.answer f st data).FaultLaws :=
    fun hm st data => hm.congr (by simp) (by simp)
  cases hm with
  | nodeReset => exact hanswer (softReset_faults h) _ _
  | populationSet v hv hallowed => exact hanswer (changePopulation_faults h v) _ _
  | silenceSet v hv =>
    refine hanswer ?_ _ _
    exact silent_faults h rfl rfl
  | limitsSet srcs cfg => exact hanswer (write_faults h srcs cfg) _ _
  | defaultsRestored hd =>
    refine hanswer ?_ _ _
    exact silent_faults (write_faults (n := n.withCfg Settings.factory) h _ _) rfl rfl
  | scanStarted hst hmu => exact hanswer ((n.passStart_works true).faults h) _ _
  | scanStopped => exact hanswer (n.seqStop_works.faults h) _ _
  | acknowledged k src e he hactive => exact hanswer (acknowledged_faults h he hactive) _ _
  | clearedDropped data => exact hanswer (dropCleared_faults h) _ _
  | operationAccepted b hb => exact (acceptOperation_works f b n).faults h
  | operationAborted o ho => exact (abortOperation_works o _).faults (hanswer h _ _)
  | standbyEntered hmu hw => exact enterStandby_faults (hanswer h _ _)
  | saveBegun hss => exact h
  | _ => exact h.congr (by simp) (by simp)

theorem Heard.faults {k : Lane} {n m : Node} (hm : n.Heard k m) (h : n.FaultLaws) : m.FaultLaws := by
  cases hm with
  | northbound f hk =>
    have hhunt : (n.setReceiver .rxS .hunt).FaultLaws := h.congr (by simp) (by simp)
    generalize n.setReceiver .rxS .hunt = m at hhunt
    rcases m.northbound_cases f with heq | heq | heq | heq
    · rw [heq]
      exact enqueueCommand_faults hhunt f
    · rw [heq]
      exact (enqueueCommand_faults hhunt f).congr (by simp) (by simp)
    · rw [heq]
      exact hhunt.congr (by simp) (by simp)
    · rw [heq]
      exact hhunt
  | _ => exact h.congr (by simp [abandon]) (by simp [abandon])

theorem Expired.faults {n m e : Node} {t : Nat} (he : n.Expired t m e) (h : m.FaultLaws) : e.FaultLaws := by
  cases he with
  | loaded hphase =>
    have hstarted : m.started.FaultLaws := silent_faults (applyLoad_faults h) (by simp [started]) (by simp [started])
    exact (autostart_works _).faults hstarted
  | settled hst => exact m.enterIdle_works.faults h
  | recovered hst => exact m.enterIdle_works.faults h
  | converted c reading hst hc =>
    obtain ⟨x, hx, heq | heq⟩ := deliver_works m.conversionEnds (c.sample reading)
    · rw [heq]
      exact hx.faults (m.conversionEnds_works.faults h)
    · rw [heq]
      exact watchDecide_faults (hx.faults (m.conversionEnds_works.faults h))
  | passDue hst hmu => exact (m.passStart_works false).faults h
  | quietGranted who r hr hgrant => exact (actOnGrant_works _ who).faults (h.congr rfl rfl)
  | injected hst => exact m.injectSettled_works.faults h
  | silent hli =>
    have hraised : ((m.withLi { m.li with silence := none }).raiseFault .linkSilent 0 m.seq.passCounter none).FaultLaws :=
      raise_faults h rfl (fun e he hs => otherSource_zero (.inr (.inl he)) hs) (fun hk => by cases hk)
        (raiseFault_ft ..) (by simp)
    exact hraised.congr (by simp [linkSilence]) (by simp [linkSilence])
  | saved v hv =>
    unfold saveEnd
    dsimp only
    split <;> exact clear_faults h (k := .storeInvalid) (src := 0) rfl (by simp [clearFault]) (by simp)
  | watchBegun htimer =>
    refine (leaseRequest_works _ _).faults (h.congr ?_ ?_) <;> simp [LimitMonitor.passStart]
  | _ => exact h.congr (by simp [abandon]) (by simp [abandon])

theorem Event.faults {n m : Node} (hm : n.Event m) (h : n.FaultLaws) : m.FaultLaws := by
  have hcold : ∀ (t : Nat) (cause : ResetCause) (phase : Phase), (cold t n.identity n.ss.image cause phase).FaultLaws :=
    fun t cause phase => by
      obtain ⟨htable, -⟩ := cold_tables t n.identity n.ss.image cause phase
      refine faults_of_empty rfl htable fun r hr => ?_
      obtain ⟨s, -, rfl⟩ := List.mem_map.mp hr
      rfl
  cases hm with
  | supplied dt =>
    exact (hcold (n.elapse dt).now .powerOn (.loading ((n.elapse dt).now + Config.loadTime))).congr
      (by simp [powerOnReset]; rfl) (by simp [powerOnReset]; rfl)
  | broken dt => exact hcold _ _ _
  | unsupplied dt => exact hcold _ _ _
  | released dt hphase => exact h.congr (by simp [elapse]) (by simp [elapse])
  | expiry t hdue he => exact he.faults (h.congr rfl rfl)
  | symbol dt k y he => exact he.faults (h.congr (by simp [elapse]) (by simp [elapse]))
  | command f rest ht he => exact he.faults h

theorem finish_faults {n : Node} (h : n.FaultLaws) : n.finish.FaultLaws := h.congr (by simp) (by simp)

end Node

/-- Settles O56: each raise and clear keeps the agreement, from which the bound on the ACTIVE entries follows (5.4). -/
theorem faultEntriesMatchTheLimitStates : Obligations.FaultEntriesMatchTheLimitStates := fun _ _ hs h =>
  have ht := step_keeps (P := fun n => n.FaultLaws) (fun _ _ hn hm => Node.finish_faults (hm.faults hn)) hs h
  ⟨ht, ht.activeCount_le⟩

end Sys2Proof.Machine
end

section
/-! SUPPORT. R96, R191: the power state, the phase of start-up and the Equalizer's state through a step. -/

namespace Sys2Proof.Machine

namespace Equalizer

/-- R96: what the state says of budgets, of the frame timer and of the state kept for the wake. -/
structure Coherent (e : Equalizer) : Prop where
  idle : e.st = .idle → e.owes = false
  running : e.st = .running → e.owes = true
  stopped : e.st = .disabled → e.slotEnd = none
  kept : e.preStandby.isSome = true ↔ e.st = .disabled

/-- Two Equalizers with one state, one frame timer and the same budgets. -/
structure SameState (e e' : Equalizer) : Prop where
  st : e'.st = e.st
  slotEnd : e'.slotEnd = e.slotEnd
  preStandby : e'.preStandby = e.preStandby
  budgets : e'.channels.map Channel.budget = e.channels.map Channel.budget

theorem SameState.refl (e : Equalizer) : e.SameState e := ⟨rfl, rfl, rfl, rfl⟩

theorem SameState.trans {a b c : Equalizer} (hab : a.SameState b) (hbc : b.SameState c) : a.SameState c :=
  ⟨hbc.st.trans hab.st, hbc.slotEnd.trans hab.slotEnd, hbc.preStandby.trans hab.preStandby, hbc.budgets.trans hab.budgets⟩

theorem owes_congr {e e' : Equalizer} (h : e'.channels.map Channel.budget = e.channels.map Channel.budget) :
    e'.owes = e.owes := by
  have howes : ∀ e : Equalizer, e.owes = (e.channels.map Channel.budget).any fun b => decide (0 < b) := fun e => by
    rw [List.any_map]
    rfl
  rw [howes, howes, h]

theorem map_budgets {l : List Channel} {g : Channel → Channel} (hg : ∀ c, (g c).budget = c.budget) :
    (l.map g).map Channel.budget = l.map Channel.budget := by
  rw [List.map_map]
  exact List.map_congr_left fun c _ => hg c

theorem Coherent.congr {e e' : Equalizer} (h : e.Coherent) (hs : e.SameState e') : e'.Coherent := by
  obtain ⟨hidle, hrunning, hstopped, hkept⟩ := h
  have howes := owes_congr hs.budgets
  exact ⟨fun hst => howes.trans (hidle (hs.st ▸ hst)), fun hst => howes.trans (hrunning (hs.st ▸ hst)),
    fun hst => hs.slotEnd.trans (hstopped (hs.st ▸ hst)), by rw [hs.preStandby, hs.st]; exact hkept⟩

/-- An Equalizer outside standby. -/
theorem coherent_of_awake {e : Equalizer} (hst : e.st ≠ .disabled) (hpre : e.preStandby = none)
    (hidle : e.st = .idle → e.owes = false) (hrunning : e.st = .running → e.owes = true) : e.Coherent :=
  ⟨hidle, hrunning, fun h => absurd h hst, by simp [hpre, hst]⟩

theorem Coherent.preStandby_none {e : Equalizer} (h : e.Coherent) (hst : e.st ≠ .disabled) : e.preStandby = none :=
  Option.not_isSome_iff_eq_none.mp fun hsome => hst (h.kept.mp hsome)

theorem closing_sameState (e : Equalizer) (p : Channel → Bool) : e.SameState (e.closing p) :=
  ⟨rfl, rfl, rfl, map_budgets fun c => by split <;> rfl⟩

/-- R110: the state adjusted to the budgets. -/
theorem adjusted_fits (e : Equalizer) : (e.adjusted = .idle → e.owes = false) ∧ (e.adjusted = .running → e.owes = true)
    ∧ (e.st ≠ .disabled → e.adjusted ≠ .disabled) := by
  unfold adjusted
  cases e.st <;> cases e.owes <;> simp

/-- R123: the state of a wake. -/
theorem wakeState_fits (w : Bool) (pre : Option EqState) (e : Equalizer) :
    (Node.wakeState w pre e = .idle → e.owes = false) ∧ (Node.wakeState w pre e = .running → e.owes = true)
      ∧ Node.wakeState w pre e ≠ .disabled := by
  unfold Node.wakeState
  split
  · simp
  · cases e.owes <;> simp

/-- R112: the budgets are gone, and RUNNING with them. -/
theorem Coherent.stop {e : Equalizer} (h : e.Coherent) (t : Nat) : (e.stop t).Coherent := by
  have howes : (e.stop t).owes = false := by
    rw [stop_eq]
    simp [owes]
  have hst : (e.stop t).st = if e.st = .running then .idle else e.st := by
    rw [stop_eq]
  refine ⟨fun _ => howes, fun hrunning => ?_, fun hdisabled => ?_, ?_⟩
  · rw [hst] at hrunning
    split at hrunning
    · cases hrunning
    · contradiction
  · rw [hst] at hdisabled
    split at hdisabled
    · cases hdisabled
    · exact h.stopped hdisabled
  · have hpre : (e.stop t).preStandby = e.preStandby := rfl
    rw [hpre, hst, h.kept]
    cases e.st <;> simp

/-- R114: SAFE_STOP is left for the state the budgets ask for. -/
theorem Coherent.resume {e : Equalizer} (h : e.Coherent) : e.resume.Coherent := by
  by_cases hst : e.st = .safeStop
  · have hpre := h.preStandby_none (by simp [hst])
    have hresume : e.resume.st = if e.owes then .running else .idle := if_pos hst
    have howes : e.resume.owes = e.owes := rfl
    refine coherent_of_awake ?_ hpre ?_ ?_
    · rw [hresume]
      cases e.owes <;> simp
    · rw [hresume, howes]
      cases e.owes <;> simp
    · rw [hresume, howes]
      cases e.owes <;> simp
  · have hsame : e.resume = e := by
      unfold Equalizer.resume
      rw [if_neg hst]
    rw [hsame]
    exact h

/-- R105, R107: after the end of a slot the budgets of a RUNNING Equalizer are gone only when a channel completed. -/
theorem owes_endSlot {e : Equalizer} (t next : Nat) :
    ((e.mapChannels (Channel.endSlot t next)).owes = true → e.owes = true)
      ∧ (e.owes = true → e.channels.any Channel.completes = false →
        (e.mapChannels (Channel.endSlot t next)).owes = true) := by
  have hbudget : ∀ c : Channel, (c.endSlot t next).budget = c.budgetAfter := fun c => by
    rw [Channel.endSlot_eq]
    rfl
  simp only [owes_iff, mapChannels_channels, List.mem_map]
  constructor
  · rintro ⟨_, ⟨c, hc, rfl⟩, hpos⟩
    refine ⟨c, hc, hpos.trans_le ?_⟩
    rw [hbudget, Channel.budgetAfter]
    split
    · exact Nat.sub_le _ _
    · exact le_rfl
  · rintro ⟨c, hc, hpos⟩ hnone
    refine ⟨_, ⟨c, hc, rfl⟩, ?_⟩
    have hcompletes : ¬(c.Served ∧ c.budget = 1) := by
      rw [← Channel.completes_iff]
      simpa using List.any_eq_false.mp hnone c hc
    rw [hbudget, Channel.budgetAfter]
    split
    · rename_i hserved
      have hne : c.budget ≠ 1 := fun hone => hcompletes ⟨hserved, hone⟩
      omega
    · exact hpos

end Equalizer

namespace Node

/-- R96, R191: the power state follows start-up, and the Equalizer's state agrees with it and with its own budgets. -/
def StateLaw (n : Node) : Prop := n.PowerLaw ∧ n.eq.Coherent

theorem StateLaw.congr {n m : Node} (h : n.StateLaw) (hpower : m.pc.power = n.pc.power) (hphase : m.pc.phase = n.pc.phase)
    (heq : n.eq.SameState m.eq) : m.StateLaw := by
  obtain ⟨hlaw, hcoherent⟩ := h
  refine ⟨?_, hcoherent.congr heq⟩
  unfold PowerLaw
  rw [hpower, hphase, heq.st]
  exact hlaw

theorem StateLaw.awake {n : Node} (h : n.StateLaw) (hpower : n.pc.power ≠ .standby) : n.eq.st ≠ .disabled :=
  fun hst => hpower (h.1.2.mpr hst)

/-- A node that leaves start-up or standby, or stays out of it. -/
theorem stateLaw_of_active {n : Node} (hpower : n.pc.power = .active) (hphase : n.pc.phase = .complete)
    (hst : n.eq.st ≠ .disabled) (heq : n.eq.Coherent) : n.StateLaw := by
  refine ⟨⟨?_, ?_⟩, heq⟩
  · simp [hpower, hphase]
  · simp [hpower, hst]

/-! ### The moves of the clients -/

theorem quietRequest_sameState (n : Node) (who : Client) (set : List Nat) : n.eq.SameState (n.quietRequest who set).eq :=
  ⟨rfl, rfl, rfl, Equalizer.map_budgets fun c => by
    split
    · exact (c.openAt_opens _ _).budget
    · rfl⟩

theorem Works.sameState {n m : Node} (h : n.Works m) : n.eq.SameState m.eq :=
  h.keeps (P := fun m => n.eq.SameState m.eq)
    (fun a b hab ha => by
      refine ha.trans ?_
      cases hab with
      | quietAsked who set => exact a.quietRequest_sameState who set
      | quietLeft who => exact ⟨rfl, rfl, rfl, rfl⟩
      | operationEnded hop b reply => cases b <;> simpa using Equalizer.SameState.refl a.eq
      | _ => simpa using Equalizer.SameState.refl a.eq)
    (.refl _)

theorem Works.stateLaw {n m : Node} (hm : n.Works m) (h : n.StateLaw) : m.StateLaw :=
  h.congr hm.power_eq.1 hm.power_eq.2 hm.sameState

/-! ### The frame timer -/

theorem restartFrame_st (n : Node) (st : Equalizer → EqState) :
    (n.restartFrame st).eq.st = st (n.eq.frameTaken n.cfg.eqFrame)
      ∧ (n.restartFrame st).eq.owes = (n.eq.frameTaken n.cfg.eqFrame).owes
      ∧ (n.restartFrame st).eq.preStandby = n.eq.preStandby := by
  rw [restartFrame_eq]
  refine ⟨rfl, ?_, rfl⟩
  exact Equalizer.owes_congr (Equalizer.map_budgets fun c => by split <;> rfl)

/-- R97, R110: a start of the frame timer outside standby. -/
theorem restartFrame_coherent {n : Node} (hst : n.eq.st ≠ .disabled) (hpre : n.eq.preStandby = none) :
    (n.restartFrame Equalizer.adjusted).eq.Coherent ∧ (n.restartFrame Equalizer.adjusted).eq.st ≠ .disabled := by
  obtain ⟨hstate, howes, hkept⟩ := restartFrame_st n Equalizer.adjusted
  obtain ⟨hidle, hrunning, hne⟩ := (n.eq.frameTaken n.cfg.eqFrame).adjusted_fits
  have hawake : (n.restartFrame Equalizer.adjusted).eq.st ≠ .disabled := hstate ▸ hne hst
  exact ⟨Equalizer.coherent_of_awake hawake (hkept.trans hpre) (fun h => howes.trans (hidle (hstate ▸ h)))
    fun h => howes.trans (hrunning (hstate ▸ h)), hawake⟩

/-- R123: a wake leaves DISABLED. -/
theorem eqWake_coherent {n : Node} (hst : n.eq.st = .disabled) (w : Bool) :
    (n.eqWake w).eq.Coherent ∧ (n.eqWake w).eq.st ≠ .disabled := by
  obtain ⟨hstate, howes, -⟩ := restartFrame_st n (wakeState w n.eq.preStandby)
  obtain ⟨hidle, hrunning, hne⟩ := Equalizer.wakeState_fits w n.eq.preStandby (n.eq.frameTaken n.cfg.eqFrame)
  rw [eqWake_eq hst]
  have hawake : (n.restartFrame (wakeState w n.eq.preStandby)).eq.st ≠ .disabled := hstate ▸ hne
  exact ⟨Equalizer.coherent_of_awake hawake rfl (fun h => howes.trans (hidle (hstate ▸ h)))
    fun h => howes.trans (hrunning (hstate ▸ h)), hawake⟩

@[simp] theorem frameWake_pc (n : Node) : n.frameWake.pc = { n.pc with power := .active, watchTimer := none } := by
  simp [frameWake]

theorem complete_of_standby {n : Node} (h : n.PowerLaw) (hpower : n.pc.power ≠ .starting) : n.pc.phase = .complete :=
  h.1.mpr hpower

/-- R193: a frame wake. -/
theorem frameWake_state {n : Node} (h : n.StateLaw) (hpower : n.pc.power = .standby) : n.frameWake.StateLaw := by
  have hst : n.eq.st = .disabled := h.1.2.mp hpower
  have hphase := complete_of_standby h.1 (by simp [hpower])
  obtain ⟨hcoherent, hawake⟩ := eqWake_coherent
    (n := (n.withPc { n.pc with power := .active, watchTimer := none }).powerUp) (by simpa using hst) false
  rw [← frameWake_eq] at hcoherent hawake
  exact stateLaw_of_active (by simp) (by simpa using hphase) hawake hcoherent

theorem watchDecide_state {n : Node} (h : n.StateLaw) : n.watchDecide.StateLaw := by
  unfold watchDecide
  split
  · rename_i hpower
    split
    · have hst : n.eq.st = .disabled := h.1.2.mp hpower
      have hphase := complete_of_standby h.1 (by simp [hpower])
      obtain ⟨hcoherent, hawake⟩ := eqWake_coherent
        (n := (n.withPc { n.pc with power := .active }).addReason fun r => { r with watchWake := true }) (by simpa using hst) true
      exact stateLaw_of_active (by simp) (by simpa using hphase) (by simpa using hawake) (by simpa using hcoherent)
    · exact h.congr (by simp [startWatchTimer]) (by simp [startWatchTimer]) (by simpa using Equalizer.SameState.refl n.eq)
  · exact h
  · exact h

/-- R101, R107: the end of a slot outside standby. -/
theorem endSlot_coherent {n : Node} (h : n.eq.Coherent) (hst : n.eq.st ≠ .disabled) :
    n.endSlot.eq.Coherent ∧ n.endSlot.eq.st ≠ .disabled := by
  have hpre := h.preStandby_none hst
  obtain ⟨hback, hon⟩ := Equalizer.owes_endSlot (e := n.eq) n.now (nextSlot n.eq.slot)
  have howes : n.endSlot.eq.owes = (n.eq.mapChannels (Channel.endSlot n.now (nextSlot n.eq.slot))).owes := by
    rw [endSlot_eq]
    rfl
  have hstate : n.endSlot.eq.st = if n.finishes then .idle else n.eq.st := by
    rw [endSlot_eq]
  have hkept : n.endSlot.eq.preStandby = n.eq.preStandby := by
    rw [endSlot_eq]
    rfl
  have hgone : n.finishes = true → n.endSlot.eq.owes = false := fun hf => by
    unfold finishes at hf
    rw [Bool.and_eq_true] at hf
    rw [howes]
    simpa using hf.2
  have hawake : n.endSlot.eq.st ≠ .disabled := by
    rw [hstate]
    split
    · simp
    · exact hst
  refine ⟨Equalizer.coherent_of_awake hawake (hkept.trans hpre) (fun hidle => ?_) (fun hrunning => ?_), hawake⟩
  · by_cases hf : n.finishes = true
    · exact hgone hf
    · rw [hstate, if_neg hf] at hidle
      rw [howes]
      exact Bool.eq_false_iff.mpr fun hpos => by
        rw [h.idle hidle] at hback
        exact Bool.false_ne_true (hback hpos)
  · rw [hstate] at hrunning
    split at hrunning
    · cases hrunning
    · rename_i hf
      rw [howes]
      by_cases hany : n.eq.channels.any Channel.completes = true
      · simpa [finishes, hrunning, hany] using hf
      · exact hon (h.running hrunning) (Bool.eq_false_iff.mpr hany)

theorem slotBoundary_coherent {n : Node} (h : n.eq.Coherent) (hst : n.eq.st ≠ .disabled) (t : Nat) :
    (n.slotBoundary t).eq.Coherent ∧ (n.slotBoundary t).eq.st ≠ .disabled := by
  have hbegin : ∀ (m : Node) (k : Nat), m.eq.Coherent ∧ m.eq.st ≠ .disabled →
      (m.beginSlot k t).eq.Coherent ∧ (m.beginSlot k t).eq.st ≠ .disabled := fun m k ⟨hm, hmst⟩ => by
    have hpre := hm.preStandby_none hmst
    rw [beginSlot_eq]
    have howes := Equalizer.owes_congr (m.eq.closing_sameState (m.mayClose k)).budgets
    exact ⟨Equalizer.coherent_of_awake hmst hpre (fun hidle => howes.trans (hm.idle hidle))
      fun hrunning => howes.trans (hm.running hrunning), hmst⟩
  obtain ⟨hend, hendst⟩ := endSlot_coherent h hst
  rw [slotBoundary_eq]
  split
  · refine hbegin _ _ ?_
    have hpre := hend.preStandby_none hendst
    obtain ⟨hidle, hrunning, hne⟩ :=
      (({ n.endSlot.eq with frameMs := n.cfg.eqFrame } : Equalizer).mapChannels Channel.applyStaged).adjusted_fits
    exact ⟨Equalizer.coherent_of_awake (hne hendst) hpre hidle hrunning, hne hendst⟩
  · exact hbegin _ _ ⟨hend, hendst⟩

end Node

end Sys2Proof.Machine
end

section
/-! SUPPORT. R96, R191: what every event leaves of the agreement between the power state and the Equalizer. -/

namespace Sys2Proof.Machine

namespace Node

theorem safeStop_state {n : Node} (h : n.StateLaw) : n.safeStop.StateLaw := by
  rw [safeStop_eq]
  split
  · rename_i hst
    have hawake : n.eq.st ≠ .disabled := by
      rcases hst with hst | hst <;> simp [hst]
    have hpower : n.pc.power ≠ .standby := fun hs => hawake (h.1.2.mp hs)
    refine ⟨⟨h.1.1, ?_⟩, Equalizer.coherent_of_awake ?_ (h.2.preStandby_none hawake) ?_ ?_⟩
    · simp [hpower]
    · simp
    · simp
    · simp
  · exact h

/-- R122: standby entry. -/
theorem asleep_state {n : Node} (h : n.StateLaw) (hpower : n.pc.power = .active) : n.asleep.StateLaw := by
  have hphase : n.seqStop.pc.phase = .complete := by
    rw [n.seqStop_works.power_eq.2]
    exact complete_of_standby h.1 (by simp [hpower])
  have hst : n.asleep.eq.st = .disabled := by
    rw [asleep_eq]
    rfl
  have hslot : n.asleep.eq.slotEnd = none := by
    rw [asleep_eq]
    rfl
  have hpre : n.asleep.eq.preStandby.isSome = true := by
    rw [asleep_eq]
    rfl
  refine ⟨⟨?_, ?_⟩, ⟨fun hidle => ?_, fun hrunning => ?_, fun _ => hslot, iff_of_true hpre hst⟩⟩
  · simp [asleep, startWatchTimer, hphase]
  · rw [hst]
    simp [asleep, startWatchTimer]
  · rw [hst] at hidle
    cases hidle
  · rw [hst] at hrunning
    cases hrunning

theorem asleep_power (n : Node) : n.asleep.pc.power = .standby := by
  simp [asleep, startWatchTimer]

theorem enterStandby_state {n : Node} (h : n.StateLaw) (hpower : n.pc.power = .active) : n.enterStandby.StateLaw := by
  have hasleep := asleep_state h hpower
  rw [enterStandby_eq]
  split
  · exact hasleep
  · exact frameWake_state hasleep n.asleep_power

/-- R124: a population change takes budgets away, from an Equalizer that owes none. -/
theorem changePopulation_state {n : Node} (h : n.StateLaw) {v : Nat} (hallowed : n.populationAllowed v = true) :
    (n.changePopulation v).StateLaw := by
  obtain ⟨hlaw, hcoherent⟩ := h
  simp only [populationAllowed, Bool.and_eq_true, Bool.or_eq_true, beq_iff_eq, Bool.not_eq_true'] at hallowed
  obtain ⟨⟨⟨⟨-, hst⟩, howes⟩, -⟩, -⟩ := hallowed
  have hst' : (n.changePopulation v).eq.st = n.eq.st := rfl
  have hgone : (n.changePopulation v).eq.owes = false := by
    refine Bool.eq_false_iff.mpr fun hpos => ?_
    obtain ⟨_, hd, hbudget⟩ := (Equalizer.owes_iff _).mp hpos
    obtain ⟨c, hc, rfl⟩ := List.mem_map.mp hd
    have hold : 0 < c.budget := by
      split at hbudget
      · cases hbudget
      · exact hbudget
    rw [(Equalizer.owes_iff n.eq).mpr ⟨c, hc, hold⟩] at howes
    cases howes
  have hawake : n.eq.st ≠ .disabled := by
    rcases hst with hst | hst <;> simp [hst]
  refine ⟨hlaw, Equalizer.coherent_of_awake (hst' ▸ hawake) (hcoherent.preStandby_none hawake) (fun _ => hgone) fun hrun => ?_⟩
  rw [hst'] at hrun
  rcases hst with hst | hst <;> simp [hst] at hrun

theorem stage_sameState (e : Equalizer) (entries : List EqEntry) : e.SameState (e.stage entries) :=
  ⟨rfl, rfl, rfl, Equalizer.map_budgets fun c => by split <;> rfl⟩

theorem Taken.state {f : Frame} {n m : Node} (hm : n.Taken f m) (h : n.StateLaw) (hpower : n.pc.power = .active) :
    m.StateLaw := by
  have hanswer : ∀ {m : Node}, m.StateLaw → ∀ (st : Status) (data : List Byte), (m.answer f st data).StateLaw :=
    fun hm st data => hm.congr (by simp) (by simp) (by simpa using Equalizer.SameState.refl _)
  have hphase := complete_of_standby h.1 (by simp [hpower])
  have hawake : n.eq.st ≠ .disabled := h.awake (by simp [hpower])
  cases hm with
  | nodeReset =>
    refine hanswer ?_ _ _
    obtain ⟨hcoherent, hst⟩ := restartFrame_coherent (n := n.softCleared.eqCleared) (by simp [eqCleared]) rfl
    rw [← softReset_eq] at hcoherent hst
    obtain ⟨-, -, -, -, -, -, -, -, -, -, -, hpc⟩ := softReset_left n
    exact stateLaw_of_active (by rw [hpc]; exact hpower) (by rw [hpc]; exact hphase) hst hcoherent
  | populationSet v hv hallowed => exact hanswer (changePopulation_state h hallowed) _ _
  | scanStarted hst hmu => exact hanswer ((n.passStart_works true).stateLaw h) _ _
  | scanStopped => exact hanswer (n.seqStop_works.stateLaw h) _ _
  | eqStaged entries hentries => exact hanswer (h.congr (m := n.withEq (n.eq.stage entries)) rfl rfl (stage_sameState n.eq entries)) _ _
  | eqStopped =>
    refine hanswer (stateLaw_of_active (n := n.withEq (n.eq.stop n.now)) hpower hphase ?_ (h.2.stop n.now)) _ _
    rw [withEq_eq, Equalizer.stop_eq]
    dsimp only
    split
    · simp
    · exact hawake
  | eqResumed =>
    refine hanswer (stateLaw_of_active (n := n.withEq n.eq.resume) hpower hphase ?_ h.2.resume) _ _
    have hst : n.eq.resume.st = if n.eq.st = .safeStop then (if n.eq.owes then .running else .idle) else n.eq.st := rfl
    rw [withEq_eq, hst]
    split
    · cases n.eq.owes <;> simp
    · exact hawake
  | doneEmptied data =>
    have hemptied : n.eq.SameState n.eq.emptyDone := ⟨rfl, rfl, rfl, Equalizer.map_budgets fun _ => rfl⟩
    exact h.congr (by simp) (by simp) (by simpa using hemptied)
  | operationAccepted b hb =>
    exact (acceptOperation_works f b n).stateLaw (h.congr (m := n.withMu _) rfl rfl (.refl _))
  | operationAborted o ho => exact (abortOperation_works o _).stateLaw (hanswer h _ _)
  | standbyEntered hmu hw => exact enterStandby_state (hanswer h _ _) (by simpa using hpower)
  | saveBegun hss => exact h
  | defaultsRestored hd => exact hanswer (h.congr (m := n.restoreDefaults) rfl rfl (.refl _)) _ _
  | _ => exact h.congr (by simp) (by simp) (by simpa using Equalizer.SameState.refl n.eq)

theorem enqueueCommand_state {n : Node} (h : n.StateLaw) (f : Frame) : (n.enqueueCommand f).StateLaw := by
  unfold enqueueCommand
  split
  · dsimp only
    split
    · exact h
    · exact h.congr (by simp) (by simp) (by simpa using Equalizer.SameState.refl n.eq)
    · rename_i hpower
      exact frameWake_state (n := n.withCh { n.ch with cmdQueue := n.ch.cmdQueue ++ [f] }) h hpower
  · dsimp only
    split
    · exact h
    · exact h.congr (by simp) (by simp) (by simpa using Equalizer.SameState.refl n.eq)
    · exact h

theorem Heard.state {k : Lane} {n m : Node} (hm : n.Heard k m) (h : n.StateLaw) : m.StateLaw := by
  have hsame : ∀ {n m : Node}, n.StateLaw → m.pc = n.pc → m.eq = n.eq → m.StateLaw := fun {n m} h hpc heq =>
    h.congr (by rw [hpc]) (by rw [hpc]) (heq ▸ .refl _)
  cases hm with
  | northbound f hk =>
    have hhunt : (n.setReceiver .rxS .hunt).StateLaw := hsame h (by simp) (by simp)
    generalize n.setReceiver .rxS .hunt = m at hhunt
    rcases m.northbound_cases f with heq | heq | heq | heq
    · rw [heq]
      exact enqueueCommand_state hhunt f
    · rw [heq]
      exact hsame (enqueueCommand_state hhunt f) (by simp) (by simp)
    · rw [heq]
      exact hsame hhunt (by simp) (by simp)
    · rw [heq]
      exact hhunt
  | _ => exact hsame h (by simp [abandon]) (by simp [abandon])

/-- R191: the node that start-up leaves ACTIVE. -/
theorem started_state {n : Node} (h : n.StateLaw) (hpower : n.pc.power ≠ .standby) : n.started.StateLaw := by
  have hawake : n.eq.st ≠ .disabled := h.awake hpower
  obtain ⟨hcoherent, hst⟩ := restartFrame_coherent
    (n := n.applyLoad.withPc { n.applyLoad.pc with power := .active, phase := .complete })
    (by simpa [applyLoad_eq] using hawake) (by simpa [applyLoad_eq] using h.2.preStandby_none hawake)
  rw [← started_eq] at hcoherent hst
  exact stateLaw_of_active (by simp [started]) (by simp [started]) hst hcoherent

/-- R191: before its phase is complete the node is starting. -/
theorem starting_of_phase {n : Node} (h : n.PowerLaw) (hphase : n.pc.phase ≠ .complete) : n.pc.power = .starting := by
  by_contra hpower
  exact hphase (h.1.mpr hpower)

theorem phase_state {n m : Node} (h : n.StateLaw) (hphase : n.pc.phase ≠ .complete) (hpower : m.pc.power = n.pc.power)
    (hphase' : m.pc.phase ≠ .complete) (heq : m.eq = n.eq) : m.StateLaw := by
  have hstarting := starting_of_phase h.1 hphase
  refine ⟨⟨iff_of_false hphase' ?_, ?_⟩, heq ▸ h.2⟩
  · simp [hpower, hstarting]
  · rw [hpower, heq]
    exact h.1.2

theorem beginStartUp_pc (n : Node) : n.beginStartUp.pc = { n.pc with phase := .loading (n.now + Config.loadTime) } := by
  simp [beginStartUp, startReceivers]

theorem Expired.state {n e : Node} {t : Nat} (he : n.Expired t (n.withNow t) e) (h : (n.withNow t).StateLaw) :
    e.StateLaw := by
  have hsame : ∀ {n m : Node}, n.StateLaw → m.pc = n.pc → m.eq = n.eq → m.StateLaw := fun {n m} h hpc heq =>
    h.congr (by rw [hpc]) (by rw [hpc]) (heq ▸ .refl _)
  cases he with
  | driveReleased hphase =>
    exact phase_state h (by simp [hphase]) (by simp [beginStartUp_pc]) (by simp [beginStartUp_pc]) (by simp)
  | driveEnded hphase => exact phase_state h (by simp [hphase]) rfl (by simp) rfl
  | loaded hphase =>
    have hstarting := starting_of_phase h.1 (by simp [hphase])
    exact (autostart_works _).stateLaw (started_state h (by rw [hstarting]; decide))
  | settled hst => exact (enterIdle_works _).stateLaw h
  | recovered hst => exact (enterIdle_works _).stateLaw h
  | converted c reading hst hc =>
    obtain ⟨x, hx, heq | heq⟩ := deliver_works (n.withNow t).conversionEnds (c.sample reading)
    · rw [heq]
      exact hx.stateLaw ((conversionEnds_works _).stateLaw h)
    · rw [heq]
      exact watchDecide_state (hx.stateLaw ((conversionEnds_works _).stateLaw h))
  | passDue hst hmu => exact (passStart_works _ false).stateLaw h
  | quietGranted who r hr hgrant =>
    exact (actOnGrant_works _ who).stateLaw (h.congr (m := (n.withNow t).withEq _) rfl rfl ⟨rfl, rfl, rfl, rfl⟩)
  | slotEnded hslot =>
    have hawake : (n.withNow t).eq.st ≠ .disabled := fun hst => by
      have hnone := h.2.stopped hst
      rw [withNow_eq, hslot] at hnone
      cases hnone
    obtain ⟨hcoherent, hst⟩ := slotBoundary_coherent h.2 hawake t
    have hpower : (n.withNow t).pc.power ≠ .standby := fun hs => hawake (h.1.2.mp hs)
    refine ⟨⟨by simpa using h.1.1, ?_⟩, hcoherent⟩
    exact iff_of_false (by simpa using hpower) hst
  | injected hst => exact (injectSettled_works _).stateLaw h
  | silent hli =>
    refine safeStop_state (h.congr ?_ ?_ ?_)
    · simp [raiseFault_eq]
    · simp [raiseFault_eq]
    · simpa using Equalizer.SameState.refl n.eq
  | saved v hv =>
    unfold saveEnd
    dsimp only
    split <;> exact hsame h (by simp) (by simp)
  | watchBegun htimer =>
    refine (leaseRequest_works _ _).stateLaw (h.congr ?_ ?_ ?_)
    · simp
    · simp
    · simpa using Equalizer.SameState.refl n.eq
  | _ => exact hsame h (by simp [abandon]) (by simp [abandon])

theorem Event.state {n m : Node} (hm : n.Event m) (h : n.StateLaw) : m.StateLaw := by
  have hcold : ∀ (t : Nat) (cause : ResetCause) (phase : Phase), phase ≠ .complete →
      (cold t n.identity n.ss.image cause phase).StateLaw := fun t cause phase hphase => by
    refine ⟨⟨iff_of_false hphase (by simp [cold]), iff_of_false (by simp [cold]) (by simp [cold])⟩, ?_⟩
    refine Equalizer.coherent_of_awake (by simp [cold]) rfl (fun _ => ?_) (by simp [cold])
    simp [cold, Equalizer.owes, Channel.initial]
  cases hm with
  | supplied dt =>
    exact (hcold (n.elapse dt).now .powerOn (.loading ((n.elapse dt).now + Config.loadTime)) (by simp)).congr
      (by simp [powerOnReset]; rfl) (by simp [powerOnReset]; rfl)
      (by simp [powerOnReset]; exact .refl _)
  | broken dt => exact hcold _ _ _ (by simp)
  | unsupplied dt => exact hcold _ _ _ (by simp)
  | released dt hphase =>
    exact phase_state h (by simp [hphase]) (by simp [elapse, beginStartUp_pc]) (by simp [beginStartUp_pc]) (by simp [elapse])
  | expiry t hdue he => exact he.state h
  | symbol dt k y he =>
    exact he.state (h.congr (by simp [elapse]) (by simp [elapse]) (by simpa [elapse] using Equalizer.SameState.refl n.eq))
  | command f rest ht he => exact he.state h ht.2.1

theorem finish_state {n : Node} (h : n.StateLaw) : n.finish.StateLaw := by
  refine h.congr (by simp) (by simp) ?_
  rw [finish_eq]
  exact ⟨rfl, rfl, rfl, Equalizer.map_budgets fun c => by
    split
    · rfl
    · exact (c.openAt_opens _ _).budget⟩

end Node

end Sys2Proof.Machine
end

section
/-! SUPPORT. R140 to R143: the clients of the converter. While no operation is in flight the Maintenance Unit neither holds
the lease nor waits for it, and the sequencer waits only in WAITING_CU; what the passes do keeps that. -/

namespace Sys2Proof.Machine

namespace Node

/-- What the clients of the converter say of each other. -/
def clients (n : Node) : (Option Client × List Client) × (MuState × SeqState) :=
  ((n.cu.holder, n.cu.waiting), (n.mu.st, n.seq.st))

/-- The Maintenance Unit does not wait for the lease, and the sequencer waits in WAITING_CU. -/
structure Apart (n : Node) : Prop where
  muOut : .mu ∉ n.cu.waiting
  seqWaits : .seq ∈ n.cu.waiting → n.seq.st = .waitingCu

/-- No client waits but the watch pass. -/
structure Clear (n : Node) : Prop where
  muOut : .mu ∉ n.cu.waiting
  seqOut : .seq ∉ n.cu.waiting

theorem Clear.apart {n : Node} (h : n.Clear) : n.Apart := ⟨h.muOut, fun hseq => absurd hseq h.seqOut⟩

theorem Apart.clear {n : Node} (h : n.Apart) (hst : n.seq.st ≠ .waitingCu) : n.Clear :=
  ⟨h.muOut, fun hseq => hst (h.seqWaits hseq)⟩

theorem Apart.congr {n m : Node} (h : n.Apart) (hwaiting : m.cu.waiting = n.cu.waiting) (hst : m.seq.st = n.seq.st) :
    m.Apart := by
  constructor
  · rw [hwaiting]
    exact h.muOut
  · rw [hwaiting, hst]
    exact h.seqWaits

/-- Fewer clients wait. -/
theorem Clear.of_subset {n m : Node} (h : n.Clear) (hwaiting : m.cu.waiting ⊆ n.cu.waiting) : m.Clear :=
  ⟨fun hmu => h.muOut (hwaiting hmu), fun hseq => h.seqOut (hwaiting hseq)⟩

/-! ### The lease between the passes -/

theorem mem_filter_ne {l : List Client} {c d : Client} : d ∈ l.filter (fun x => x != c) ↔ d ∈ l ∧ d ≠ c := by
  simp [List.mem_filter]

theorem grantLease_mu {n : Node} {c : Client} (hc : c ≠ .mu) : (n.grantLease c).mu = n.mu := by
  cases c with
  | mu => exact absurd rfl hc
  | seq => simp [grantLease]
  | watch => simp [grantLease]

/-- R14: a grant to another client leaves the Maintenance Unit out. -/
theorem grantLease_apart {n : Node} (h : n.Apart) {c : Client} (hc : c ≠ .mu) : (n.grantLease c).Apart := by
  obtain ⟨-, hwaiting⟩ := grantLease_lease n c
  refine ⟨fun hmu => ?_, fun hseq => ?_⟩
  · rw [hwaiting, mem_filter_ne] at hmu
    exact h.muOut hmu.1
  · rw [hwaiting, mem_filter_ne] at hseq
    obtain ⟨hold, hne⟩ := hseq
    cases c with
    | mu => exact absurd rfl hc
    | seq => exact absurd rfl hne
    | watch =>
      have hst := h.seqWaits hold
      simpa [grantLease] using hst

theorem grantWaiting_apart {n : Node} (h : n.Apart) : n.grantWaiting.Apart ∧ n.grantWaiting.mu = n.mu := by
  unfold grantWaiting
  split
  · rename_i c rest _ hwaiting
    have hc : c ≠ .mu := by
      rintro rfl
      exact h.muOut (by simp [hwaiting])
    split
    · exact ⟨grantLease_apart h hc, grantLease_mu hc⟩
    · exact ⟨h, rfl⟩
  · exact ⟨h, rfl⟩

theorem grantWaiting_subset (n : Node) : n.grantWaiting.cu.waiting ⊆ n.cu.waiting := by
  unfold grantWaiting
  split
  · split
    · rw [(grantLease_lease n _).2]
      exact List.filter_subset_self _
    · exact List.Subset.refl _
  · exact List.Subset.refl _

theorem leaseRelease_apart {n : Node} (h : n.Apart) (c : Client) :
    (n.leaseRelease c).Apart ∧ (n.leaseRelease c).mu = n.mu := by
  unfold leaseRelease
  split
  · obtain ⟨hapart, hmu⟩ := grantWaiting_apart (h.congr (m := n.dropLease) rfl rfl)
    exact ⟨hapart, hmu.trans (by simp)⟩
  · exact ⟨h, rfl⟩

theorem leaseRelease_subset (n : Node) (c : Client) : (n.leaseRelease c).cu.waiting ⊆ n.cu.waiting := by
  unfold leaseRelease
  split
  · exact n.dropLease.grantWaiting_subset
  · exact List.Subset.refl _

/-- R14: the sequencer or the watch pass asks for the lease. -/
theorem leaseRequest_apart {n : Node} (h : n.Apart) {c : Client} (hc : c ≠ .mu)
    (hseq : c = .seq → n.seq.st = .waitingCu) : (n.leaseRequest c).Apart ∧ (n.leaseRequest c).mu = n.mu := by
  unfold leaseRequest
  split
  · exact ⟨h, rfl⟩
  · split
    · exact ⟨grantLease_apart h hc, grantLease_mu hc⟩
    · refine ⟨⟨fun hmu => ?_, fun hwait => ?_⟩, rfl⟩
      · rcases List.mem_append.mp hmu with hold | hnew
        · exact h.muOut hold
        · exact hc (List.mem_singleton.mp hnew).symm
      · rcases List.mem_append.mp hwait with hold | hnew
        · exact h.seqWaits hold
        · exact hseq (List.mem_singleton.mp hnew).symm

/-! ### The passes of the sequencer -/

theorem passStart_apart {n : Node} (h : .mu ∉ n.cu.waiting) (activation : Bool) :
    (n.passStart activation).Apart ∧ (n.passStart activation).mu = n.mu := by
  unfold passStart
  dsimp only
  generalize hm : (if activation || n.activatesAtPassStart then n.activate else n) = m
  have hcu : m.cu = n.cu ∧ m.mu = n.mu := by
    rw [← hm]
    split <;> simp
  obtain ⟨hcu, hmu⟩ := hcu
  obtain ⟨hapart, hkept⟩ := leaseRequest_apart (n := (m.advancePass.withLm m.advancePass.lm.passStart).withSeq
      { (m.advancePass.withLm m.advancePass.lm.passStart).seq with
        st := .waitingCu, stepIndex := none, acc := none
        passStart := some (m.advancePass.withLm m.advancePass.lm.passStart).now
        due := (m.advancePass.withLm m.advancePass.lm.passStart).nextDue })
    ⟨by simpa [hcu] using h, fun _ => rfl⟩ (c := .seq) (by simp) fun _ => rfl
  exact ⟨hapart, hkept.trans (by simpa using hmu)⟩

theorem afterPass_apart {n : Node} (h : n.Clear) : n.afterPass.Apart ∧ n.afterPass.mu = n.mu := by
  have hstart := passStart_apart h.muOut false
  have hwith : ∀ x : Sequencer, (n.withSeq x).Apart ∧ (n.withSeq x).mu = n.mu := fun x =>
    ⟨(h.of_subset (m := n.withSeq x) (List.Subset.refl _)).apart, rfl⟩
  unfold afterPass
  split
  · exact hwith _
  · split
    · exact hwith _
    · split
      · exact hstart
      · split
        · exact hstart
        · split
          · exact hwith _
          · split
            · exact hstart
            · obtain ⟨hapart, hmu⟩ := passStart_apart (n := n.countLate) (by simpa using h.muOut) false
              exact ⟨hapart, hmu.trans (by simp)⟩

theorem passEnd_apart {n : Node} (h : n.Clear) : n.passEnd.Apart ∧ n.passEnd.mu = n.mu := by
  unfold passEnd
  dsimp only
  generalize hm : (n.withSeq { n.seq with passDone := true }).plausibility _ = m
  have hclear : m.Clear := h.of_subset (by simp [← hm])
  have hmu : m.mu = n.mu := by simp [← hm]
  obtain ⟨-, hkept⟩ := leaseRelease_apart hclear.apart .seq
  have hreleased := hclear.of_subset (m.leaseRelease_subset .seq)
  obtain ⟨hapart, hlast⟩ := afterPass_apart (n := (m.leaseRelease .seq).withSeq
    { (m.leaseRelease .seq).seq with stepIndex := none, acc := none }) (hreleased.of_subset (List.Subset.refl _))
  exact ⟨hapart, hlast.trans (hkept.trans hmu)⟩

theorem seqBeginStep_clear {n : Node} (h : n.Clear) (i : Nat) :
    (n.seqBeginStep i).Clear ∧ (n.seqBeginStep i).mu = n.mu :=
  ⟨h.of_subset (by rw [(seqBeginStep_lease n i).2]; exact List.Subset.refl _), by simp⟩

theorem seqStepEnd_apart {n : Node} (h : n.Clear) (i : Nat) (s : Step) (a : Accum) :
    (n.seqStepEnd i s a).Apart ∧ (n.seqStepEnd i s a).mu = n.mu := by
  unfold seqStepEnd
  dsimp only
  generalize hm : (if s.quiet then _ else _ : Node) = m
  have hcu : m.cu = n.cu ∧ m.mu = n.mu := by
    rw [← hm]
    split <;> simp
  obtain ⟨hcu, hmu⟩ := hcu
  have hclear : m.Clear := h.of_subset (by simp [hcu])
  split
  · obtain ⟨hstep, hkept⟩ := seqBeginStep_clear hclear (i + 1)
    exact ⟨hstep.apart, hkept.trans hmu⟩
  · obtain ⟨hend, hkept⟩ := passEnd_apart hclear
    exact ⟨hend, hkept.trans hmu⟩

theorem seqSample_apart {n : Node} (h : n.Apart) (v : Int) : (n.seqSample v).Apart ∧ (n.seqSample v).mu = n.mu := by
  unfold seqSample
  split
  · rename_i hst
    have hclear := h.clear (by simp [hst])
    split
    · exact ⟨h, rfl⟩
    · split
      · exact ⟨h, rfl⟩
      · dsimp only
        split
        · refine ⟨(hclear.of_subset ?_).apart, by simp⟩
          rw [(convRequest_lease _ _ _).2]
          exact List.Subset.refl _
        · exact seqStepEnd_apart hclear _ _ _
  · exact ⟨h, rfl⟩

theorem seqStop_apart {n : Node} (h : n.Apart) : n.seqStop.Apart ∧ n.seqStop.mu = n.mu := by
  have hstopped : n.seq.st ≠ .waitingCu → ∀ x : Sequencer, (n.withSeq x).Clear := fun hst x =>
    (h.clear hst).of_subset (List.Subset.refl _)
  have hreleased : n.seq.st ≠ .waitingCu → ∀ x : Sequencer, (((n.withSeq x).quietRelease .seq).leaseRelease .seq).Apart
      ∧ (((n.withSeq x).quietRelease .seq).leaseRelease .seq).mu = n.mu := fun hst x => by
    have hclear : ((n.withSeq x).quietRelease .seq).Clear := (hstopped hst x).of_subset (by simp)
    obtain ⟨hapart, hmu⟩ := leaseRelease_apart hclear.apart .seq
    exact ⟨hapart, hmu.trans (by simp)⟩
  unfold seqStop
  dsimp only
  split
  · exact ⟨h, rfl⟩
  · refine ⟨Clear.apart ⟨fun hmu => ?_, fun hseq => ?_⟩, by simp⟩
    · exact h.muOut (mem_filter_ne.mp hmu).1
    · exact (mem_filter_ne.mp hseq).2 rfl
  · rename_i hst
    exact hreleased (by simp [hst]) _
  · rename_i hst
    exact hreleased (by simp [hst]) _
  · rename_i hst
    exact ⟨(hstopped (by simp [hst]) _).apart, rfl⟩
  · rename_i hst
    exact ⟨(hstopped (by simp [hst]) _).apart, rfl⟩

theorem startDeferred_apart {n : Node} (h : n.Apart) : n.startDeferred.Apart ∧ n.startDeferred.mu = n.mu := by
  obtain ⟨hapart, hmu⟩ := passStart_apart h.muOut false
  unfold startDeferred
  split
  · dsimp only
    split
    · exact ⟨hapart.congr (by simp) rfl, (by simpa using hmu)⟩
    · exact ⟨hapart, hmu⟩
  · exact ⟨h, rfl⟩

theorem autostart_apart {n : Node} (h : n.Apart) : n.autostart.Apart ∧ n.autostart.mu = n.mu := by
  unfold autostart
  split
  · exact ⟨h, rfl⟩
  · rename_i p _
    split
    · exact passStart_apart (n := n.withSeq { n.seq with staged := some p }) h.muOut true
    · exact ⟨h, rfl⟩

/-- R153: the end of an operation leaves the Maintenance Unit IDLE. -/
theorem endOperation_apart {n : Node} (h : n.Apart) {o : Operation} (ho : n.mu.op = some o) (kind : Byte) (st : Status)
    (data : List Byte) : (n.endOperation kind st data).Apart ∧ (n.endOperation kind st data).mu.st = .idle := by
  unfold endOperation
  rw [ho]
  dsimp only
  generalize hm : (n.quietRelease .mu).leaseRelease .mu = m
  have hapart : m.Apart := by
    rw [← hm]
    exact (leaseRelease_apart (h.congr (m := n.quietRelease .mu) (by simp) (by simp)) .mu).1
  generalize hq : (if o.broadcast then m else m.completionReply .maintenance (m.replyFrame kind o.tag st data)) = q
  have hsame : q.cu = m.cu ∧ q.seq = m.seq := by
    rw [← hq]
    split <;> simp
  obtain ⟨hcu, hseq⟩ := hsame
  obtain ⟨hdeferred, hmu⟩ := startDeferred_apart (n := q.withMu { st := .idle, op := none })
    (hapart.congr (by simp [hcu]) (by simp [hseq]))
  exact ⟨hdeferred, by rw [hmu]; rfl⟩

end Node

end Sys2Proof.Machine
end

section
/-! SUPPORT. R140 to R143: what every event leaves of the law between the clients of the converter. -/

namespace Sys2Proof.Machine

namespace Node

theorem ClientLaw.congr {n m : Node} (h : n.ClientLaw) (hclients : m.clients = n.clients)
    (hpower : n.pc.power = .active → m.pc.power = .active) : m.ClientLaw := by
  simp only [clients, Prod.mk.injEq] at hclients
  obtain ⟨⟨hholder, hwaiting⟩, hmu, hseq⟩ := hclients
  obtain ⟨hpass, hlease, hwait, hturn, hidle⟩ := h
  unfold ClientLaw
  rw [hholder, hwaiting, hmu, hseq]
  exact ⟨hpass, hlease, hwait, hturn, fun hne => hidle fun hactive => hne (hpower hactive)⟩

theorem ClientLaw.apart {n : Node} (h : n.ClientLaw) (hmu : n.mu.st ≠ .leaseWait) : n.Apart := by
  obtain ⟨-, -, hwait, hturn, -⟩ := h
  exact ⟨fun hin => hmu (hwait hin), hturn⟩

theorem ClientLaw.apart_of_idle {n : Node} (h : n.ClientLaw) (hmu : n.mu.st = .idle) : n.Apart :=
  h.apart (by simp [hmu])

/-- With no operation in flight the law is about who waits. -/
theorem Apart.clientLaw {n : Node} (h : n.Apart) (hmu : n.mu.st = .idle) : n.ClientLaw :=
  ⟨fun hne => absurd hmu hne, fun hne => absurd hmu hne, fun hin => absurd hin h.muOut, h.seqWaits, fun _ => hmu⟩

/-- An operation that holds the lease. -/
theorem clientLaw_of_holder {n : Node} (hpass : n.seq.st = .stopped ∨ n.seq.st = .passGap ∨ n.seq.st = .deferred)
    (hholder : n.cu.holder = some .mu) (hapart : n.Apart) (hpower : n.pc.power = .active) : n.ClientLaw :=
  ⟨fun _ => hpass, fun _ => .inl hholder, fun hin => absurd hin hapart.muOut, hapart.seqWaits,
    fun hne => absurd hpower hne⟩

/-! ### What leaves the lease as it is -/

@[simp] theorem powerUp_lease (n : Node) :
    n.powerUp.cu.holder = n.cu.holder ∧ n.powerUp.cu.waiting = n.cu.waiting := by
  unfold powerUp
  split <;> exact ⟨rfl, rfl⟩

@[simp] theorem frameWake_lease (n : Node) :
    n.frameWake.cu.holder = n.cu.holder ∧ n.frameWake.cu.waiting = n.cu.waiting := by
  simp [frameWake]

@[simp] theorem beginStartUp_lease (n : Node) :
    n.beginStartUp.cu.holder = n.cu.holder ∧ n.beginStartUp.cu.waiting = n.cu.waiting := by
  simp [beginStartUp, startReceivers]

@[simp] theorem applyLoad_lease (n : Node) : n.applyLoad.cu.holder = n.cu.holder
    ∧ n.applyLoad.cu.waiting = n.cu.waiting ∧ n.applyLoad.seq = n.seq := by
  unfold applyLoad
  split <;> simp [loadLimits]

/-! ### The lease -/

/-- R14, R142: a grant to an operation in flight. -/
theorem grantLease_mu_client {n : Node} (h : n.ClientLaw) (hmu : n.mu.st ≠ .idle) (hpower : n.pc.power = .active) :
    (n.grantLease .mu).ClientLaw := by
  obtain ⟨hpass, -, -, hturn, -⟩ := h
  obtain ⟨hholder, hwaiting⟩ := grantLease_lease n .mu
  have hseq : (n.grantLease .mu).seq = n.seq := by simp [grantLease]
  refine clientLaw_of_holder (hseq ▸ hpass hmu) hholder ⟨fun hin => ?_, fun hin => ?_⟩ ?_
  · rw [hwaiting, mem_filter_ne] at hin
    exact hin.2 rfl
  · rw [hwaiting, mem_filter_ne] at hin
    rw [hseq]
    exact hturn hin.1
  · rw [(n.grantLease_works .mu).power_eq.1]
    exact hpower

theorem ClientLaw.power_of_busy {n : Node} (h : n.ClientLaw) (hmu : n.mu.st ≠ .idle) : n.pc.power = .active := by
  obtain ⟨-, -, -, -, hidle⟩ := h
  by_contra hpower
  exact hmu (hidle hpower)

theorem ClientLaw.idle_of_seq {n : Node} (h : n.ClientLaw)
    (hseq : ¬(n.seq.st = .stopped ∨ n.seq.st = .passGap ∨ n.seq.st = .deferred)) : n.mu.st = .idle := by
  by_contra hmu
  exact hseq (h.1 hmu)

/-- A grant of the free lease to the watch pass leaves a waiting operation waiting. -/
theorem grantLease_watch_client {n : Node} (h : n.ClientLaw) (hfree : n.cu.holder = none) :
    (n.grantLease .watch).ClientLaw := by
  obtain ⟨hpass, hlease, hwait, hturn, hidle⟩ := h
  obtain ⟨-, hwaiting⟩ := grantLease_lease n .watch
  have hmu : (n.grantLease .watch).mu = n.mu := grantLease_mu (by simp)
  have hseq : (n.grantLease .watch).seq = n.seq := by simp [grantLease]
  have hpower : (n.grantLease .watch).pc.power = n.pc.power := (n.grantLease_works .watch).power_eq.1
  unfold ClientLaw
  rw [hwaiting, hmu, hseq, hpower]
  simp only [mem_filter_ne]
  refine ⟨hpass, fun hne => .inr ⟨?_, by simp⟩, fun hin => hwait hin.1, fun hin => hturn hin.1, hidle⟩
  rcases hlease hne with hheld | hin
  · rw [hfree] at hheld
    cases hheld
  · exact hin

/-- R15: the client that has waited longest is granted the free lease. -/
theorem grantWaiting_client {n : Node} (h : n.ClientLaw) : n.grantWaiting.ClientLaw := by
  unfold grantWaiting
  split
  · rename_i c rest hfree hwaiting
    have hin : c ∈ n.cu.waiting := by simp [hwaiting]
    split
    · cases c with
      | mu =>
        have hmu : n.mu.st = .leaseWait := h.2.2.1 hin
        exact grantLease_mu_client h (by simp [hmu]) (h.power_of_busy (by simp [hmu]))
      | seq =>
        have hseq : n.seq.st = .waitingCu := h.2.2.2.1 hin
        have hidle := h.idle_of_seq (by simp [hseq])
        have hmu : (n.grantLease .seq).mu = n.mu := grantLease_mu (by simp)
        exact (grantLease_apart (h.apart_of_idle hidle) (by simp)).clientLaw (by rw [hmu]; exact hidle)
      | watch => exact grantLease_watch_client h hfree
    · exact h
  · exact h

/-- R15: another client than the Maintenance Unit releases the lease. -/
theorem leaseRelease_client {n : Node} (h : n.ClientLaw) {c : Client} (hc : c ≠ .mu) : (n.leaseRelease c).ClientLaw := by
  unfold leaseRelease
  split
  · rename_i hholder
    refine grantWaiting_client ?_
    obtain ⟨hpass, hlease, hwait, hturn, hidle⟩ := h
    refine ⟨hpass, fun hne => .inr ?_, hwait, hturn, hidle⟩
    rcases hlease hne with hheld | hin
    · rw [hholder] at hheld
      exact absurd (Option.some.inj hheld) hc
    · exact hin
  · exact h

theorem leaseRequest_watch_client {n : Node} (h : n.ClientLaw) : (n.leaseRequest .watch).ClientLaw := by
  unfold leaseRequest
  split
  · exact h
  · split
    · rename_i hready
      exact grantLease_watch_client h hready.1
    · obtain ⟨hpass, hlease, hwait, hturn, hidle⟩ := h
      have hmem : ∀ d : Client, d ≠ .watch → (d ∈ n.cu.waiting ++ [.watch] ↔ d ∈ n.cu.waiting) := fun d hd => by
        simp [hd]
      refine ⟨hpass, fun hne => ?_, fun hin => hwait ((hmem _ (by simp)).mp hin),
        fun hin => hturn ((hmem _ (by simp)).mp hin), hidle⟩
      exact (hlease hne).imp id (hmem _ (by simp)).mpr

/-- R142: an operation accepted holds the lease or waits for it. -/
theorem acceptOperation_client {n : Node} (h : n.ClientLaw) (hbusy : n.maintBusy = false) (hpower : n.pc.power = .active)
    (f : Frame) (b : OpBody) : (n.acceptOperation f b).ClientLaw := by
  simp only [maintBusy, MaintenanceUnit.inFlight, Bool.or_eq_false_iff, bne_eq_false_iff_eq, Bool.not_eq_false',
    Bool.or_eq_true, beq_iff_eq] at hbusy
  obtain ⟨hidle, hseq⟩ := hbusy
  have hapart := h.apart_of_idle hidle
  have hpass : n.seq.st = .stopped ∨ n.seq.st = .passGap ∨ n.seq.st = .deferred := hseq.imp id .inl
  unfold acceptOperation
  generalize hm : n.withMu { st := .leaseWait, op := some { tag := f.tag, broadcast := f.isBroadcast, body := b } } = m
  have hmu : m.mu.st = .leaseWait := by rw [← hm]; rfl
  have hcu : m.cu = n.cu := by simp [← hm]
  have hmseq : m.seq = n.seq := by simp [← hm]
  have hmpower : m.pc.power = .active := by simpa [← hm] using hpower
  have hmapart : m.Apart := hapart.congr (by rw [hcu]) (by rw [hmseq])
  have hmpass : m.seq.st = .stopped ∨ m.seq.st = .passGap ∨ m.seq.st = .deferred := by rwa [hmseq]
  unfold leaseRequest
  split
  · rename_i hin
    have hholder : m.cu.holder = some .mu := hin.resolve_right (by simpa using hmapart.muOut)
    exact clientLaw_of_holder hmpass hholder hmapart hmpower
  · split
    · obtain ⟨hholder, hwaiting⟩ := grantLease_lease m .mu
      have hgseq : (m.grantLease .mu).seq = m.seq := by simp [grantLease]
      refine clientLaw_of_holder (hgseq ▸ hmpass) hholder ⟨fun hin => ?_, fun hin => ?_⟩ ?_
      · rw [hwaiting, mem_filter_ne] at hin
        exact hin.2 rfl
      · rw [hwaiting, mem_filter_ne] at hin
        rw [hgseq]
        exact hmapart.seqWaits hin.1
      · rw [(m.grantLease_works .mu).power_eq.1]
        exact hmpower
    · refine ⟨fun _ => hmpass, fun _ => .inr (by simp), fun _ => hmu, fun hin => hmapart.seqWaits ?_,
        fun hne => absurd hmpower hne⟩
      simpa using hin

/-! ### The readings of an operation -/

/-- What an operation in flight that has been granted the lease does leaves the law, while it stays in flight. -/
theorem ClientLaw.of_busy {n m : Node} (h : n.ClientLaw) (hidle : n.mu.st ≠ .idle) (hwait : n.mu.st ≠ .leaseWait)
    (hlease : m.cu.holder = n.cu.holder ∧ m.cu.waiting = n.cu.waiting) (hseq : m.seq.st = n.seq.st)
    (hpower : m.pc.power = n.pc.power) : m.ClientLaw := by
  have hactive := h.power_of_busy hidle
  have hapart := h.apart hwait
  obtain ⟨hholder, hwaiting⟩ := hlease
  obtain ⟨hpass, hlease, -, -, -⟩ := h
  have hheld : n.cu.holder = some .mu := (hlease hidle).resolve_right hapart.muOut
  exact clientLaw_of_holder (hseq ▸ hpass hidle) (hholder.trans hheld) (hapart.congr hwaiting hseq) (hpower.trans hactive)

theorem orderInjection_lease (n : Node) (c : Client) (i : Injection) :
    (n.orderInjection c i).cu.holder = n.cu.holder ∧ (n.orderInjection c i).cu.waiting = n.cu.waiting := by
  unfold orderInjection
  (repeat' split) <;> exact ⟨rfl, rfl⟩

/-- R153: an operation that ends leaves the Maintenance Unit IDLE. -/
theorem endOperation_client {n : Node} (h : n.Apart) {o : Operation} (ho : n.mu.op = some o) (kind : Byte) (st : Status)
    (data : List Byte) : (n.endOperation kind st data).ClientLaw := by
  obtain ⟨hapart, hidle⟩ := endOperation_apart h ho kind st data
  exact hapart.clientLaw hidle

theorem lineSearch_lease (n : Node) (l : LineOp) :
    (n.lineSearch l).cu.holder = n.cu.holder ∧ (n.lineSearch l).cu.waiting = n.cu.waiting := by
  unfold lineSearch
  split <;> exact testSpan_lease _ _ _ _ _

theorem trimCommit_client {n : Node} (h : n.ClientLaw) (hidle : n.mu.st ≠ .idle) (hwait : n.mu.st ≠ .leaseWait)
    {o : Operation} (ho : n.mu.op = some o) (t : TrimOp) : (n.trimCommit t).ClientLaw := by
  unfold trimCommit
  dsimp only
  generalize hm : (((n.withCu { n.cu with trim := n.cu.trim.set t.range (t.u - 32) }).withOp
    (.trim { t with committed := t.committed.set t.range (t.u - 32) })).railOutcome t.range t.u) = m
  have hholder : m.cu.holder = n.cu.holder := by simp [← hm]
  have hwaiting : m.cu.waiting = n.cu.waiting := by simp [← hm]
  have hseq : m.seq = n.seq := by simp [← hm]
  have hop : ∃ o, m.mu.op = some o := by simp [← hm, withOp, ho]
  have hworks : (n.withCu { n.cu with trim := n.cu.trim.set t.range (t.u - 32) }).Works m := by
    rw [← hm]
    exact (works_withOp _ _).trans (Move.works (.railJudged _ _))
  have hpower : m.pc.power = n.pc.power := hworks.power_eq.1
  split
  · rename_i r _
    obtain ⟨htrial, htrialw⟩ := trimTrial_lease m { t with
      committed := t.committed.set t.range (t.u - 32), range := r, u := 0, bit := 5 }
    exact h.of_busy hidle hwait ⟨htrial.trans hholder, htrialw.trans hwaiting⟩ (by simp [hseq]) (by simpa using hpower)
  · obtain ⟨o, ho⟩ := hop
    exact endOperation_client ((h.apart hwait).congr hwaiting (by rw [hseq])) ho _ _ _

theorem trimReading_client {n : Node} (h : n.ClientLaw) (hidle : n.mu.st ≠ .idle) (hwait : n.mu.st ≠ .leaseWait)
    {o : Operation} (ho : n.mu.op = some o) (t : TrimOp) (v : Int) : (n.trimReading t v).ClientLaw := by
  have hnext : ∀ t : TrimOp,
      (if 0 < t.bit then n.trimTrial { t with bit := t.bit - 1 } else n.trimCommit t).ClientLaw := fun t => by
    split
    · exact h.of_busy hidle hwait (trimTrial_lease _ _) (by simp) (by simp)
    · exact trimCommit_client h hidle hwait ho t
  exact hnext _

theorem lineEnd_client {n : Node} (h : n.Apart) {o : Operation} (ho : n.mu.op = some o) (l : LineOp) (result : Nat) :
    (n.lineEnd l result).ClientLaw := by
  have hend : ∀ (m : Node) (data : List Byte), m.cu = n.cu ∧ m.seq = n.seq ∧ m.mu = n.mu →
      (m.endOperation 0x61 .ok data).ClientLaw := fun m data ⟨hcu, hseq, hmu⟩ =>
    endOperation_client (h.congr (by rw [hcu]) (by rw [hseq])) (hmu ▸ ho) _ _ _
  unfold lineEnd
  refine hend _ _ ?_
  split
  · simp
  · simp
  · exact ⟨rfl, rfl, rfl⟩

theorem lineJudge_client {n : Node} (h : n.ClientLaw) (hidle : n.mu.st ≠ .idle) (hwait : n.mu.st ≠ .leaseWait)
    {o : Operation} (ho : n.mu.op = some o) (l : LineOp) (on off : Int) : (n.lineJudge l on off).ClientLaw := by
  have hsearch : ∀ (b : OpBody) (l : LineOp), ((n.withOp b).lineSearch l).ClientLaw := fun b l => by
    obtain ⟨hholder, hwaiting⟩ := lineSearch_lease (n.withOp b) l
    exact h.of_busy hidle hwait ⟨hholder.trans (by simp), hwaiting.trans (by simp)⟩ (by simp) (by simp)
  have hend : ∀ (b : OpBody) (l : LineOp) (k : Nat), ((n.withOp b).lineEnd l k).ClientLaw := fun b l k => by
    obtain ⟨x, hx⟩ : ∃ x, (n.withOp b).mu.op = some x := by simp [withOp, ho]
    exact lineEnd_client ((h.apart hwait).congr (by simp) (by simp)) hx l k
  unfold lineJudge
  dsimp only
  split
  · split
    · exact hsearch _ _
    · exact hend _ _ _
  · exact hsearch _ _
  · exact hend _ _ _

theorem muReading_client {n : Node} (h : n.ClientLaw) (v : Int) : (n.muReading v).ClientLaw := by
  unfold muReading
  split
  · exact h
  · rename_i o ho
    split
    · rename_i hst hbody
      exact trimReading_client h (by simp [hst]) (by simp [hst]) ho _ v
    · rename_i l hst hbody
      dsimp only
      obtain ⟨hholder, hwaiting⟩ := orderInjection_lease (n.withOp (.line { l with offReading := some v })) .mu (.on l.a l.b)
      exact h.of_busy (by simp [hst]) (by simp [hst]) ⟨hholder.trans (by simp), hwaiting.trans (by simp)⟩ (by simp) (by simp)
    · rename_i l hst hbody
      have hordered : (n.orderInjection .mu .off).ClientLaw :=
        h.of_busy (by simp [hst]) (by simp [hst]) (orderInjection_lease n .mu .off) (by simp) (by simp)
      exact lineJudge_client hordered (by simp [hst]) (by simp [hst]) (by simpa using ho) _ _ _
    · exact h

theorem seqSample_client {n : Node} (h : n.ClientLaw) (v : Int) : (n.seqSample v).ClientLaw := by
  by_cases hst : n.seq.st = .converting
  · have hidle := h.idle_of_seq (by simp [hst])
    obtain ⟨hapart, hmu⟩ := seqSample_apart (h.apart_of_idle hidle) v
    exact hapart.clientLaw (by rw [hmu]; exact hidle)
  · unfold seqSample
    rw [if_neg hst]
    exact h

/-! ### The watch pass and what a delivery brings about -/

theorem watchStep_client {n : Node} (h : n.ClientLaw) (steps : List Nat) : (n.watchStep steps).ClientLaw := by
  obtain ⟨hholder, hwaiting⟩ := watchStep_lease n steps
  exact h.congr (by simp [clients, hholder, hwaiting]) fun hactive => (watchStep_works n steps).power_eq.1.trans hactive

theorem watchDecide_client {n : Node} (h : n.ClientLaw) : n.watchDecide.ClientLaw := by
  unfold watchDecide
  split
  · rename_i hpower
    split
    · exact h.congr (by simp [clients]) fun _ => by simp
    · have hidle : n.mu.st = .idle := h.2.2.2.2 (by simp [hpower])
      refine Apart.clientLaw ⟨?_, ?_⟩ (by simpa using hidle)
      · simp [powerDown]
      · simp [powerDown]
  · exact h
  · exact h

theorem watchPassEnd_client {n : Node} (h : n.ClientLaw) (pass : Nat) : (n.watchPassEnd pass).ClientLaw := by
  have hchecked : ((n.plausibility pass).quietRelease .watch).ClientLaw :=
    h.congr (by simp [clients]) fun hactive =>
      ((Move.works (.passChecked pass)).trans (Move.works (.quietLeft .watch))).power_eq.1.trans hactive
  exact watchDecide_client ((leaseRelease_client hchecked (c := .watch) (by simp)).congr rfl id)

theorem watchSample_client {n : Node} (h : n.ClientLaw) (v : Int) : (n.watchSample v).ClientLaw := by
  unfold watchSample
  split
  · exact h
  · rename_i w _
    split
    · exact h
    · exact h
    · rename_i src _
      dsimp only
      generalize hm : (if isCell src && decide (n.cfg.population < src) then n else n.watchWrite w src v) = m
      have hwritten : m.ClientLaw := by
        rw [← hm]
        split
        · exact h
        · exact h.congr (by simp [clients]) fun hactive => (Move.works (.resultWritten _)).power_eq.1.trans hactive
      split
      · exact watchPassEnd_client hwritten _
      · exact watchStep_client hwritten _

theorem deliver_client {n : Node} (h : n.ClientLaw) (v : Int) : (n.deliver v).ClientLaw := by
  unfold deliver
  split
  · exact h
  · exact seqSample_client h v
  · exact muReading_client h v
  · exact watchSample_client h v

theorem startPending_clients (n : Node) : n.startPending.clients = n.clients := by
  unfold startPending
  split <;> rfl

theorem enterIdle_client {n : Node} (h : n.ClientLaw) : n.enterIdle.ClientLaw := by
  have hgranted : (n.withCu { n.cu with st := .idle }).grantWaiting.ClientLaw := grantWaiting_client (h.congr rfl id)
  exact hgranted.congr (startPending_clients _) (by simp [enterIdle])

theorem conversionEnds_client {n : Node} (h : n.ClientLaw) : n.conversionEnds.ClientLaw :=
  h.congr (startPending_clients _) (by simp [conversionEnds])

theorem actOnGrant_client {n : Node} (h : n.ClientLaw) (who : Client) : (n.actOnGrant who).ClientLaw := by
  unfold actOnGrant
  split
  · split
    · rename_i x hst _
      have hidle := h.idle_of_seq (by simp [hst])
      have hclear := (h.apart_of_idle hidle).clear (by simp [hst])
      refine (hclear.of_subset ?_).apart.clientLaw (by simpa using hidle)
      rw [(seqConvert_lease n _).2]
      exact List.Subset.refl _
    · exact h
  · split
    · rename_i hst
      exact h.of_busy (by simp [hst]) (by simp [hst]) (muStart_lease n) (by simp) (by simp)
    · exact h
  · split
    · exact h
    · split
      · obtain ⟨hholder, hwaiting⟩ := watchStart_lease n
        exact h.congr (by simp [clients, hholder, hwaiting]) fun hactive => (watchStart_works n).power_eq.1.trans hactive
      · exact h

theorem injectSettled_client {n : Node} (h : n.ClientLaw) {t : Nat} (hst : n.mu.st = .injectSettle t) :
    n.injectSettled.ClientLaw := by
  unfold injectSettled
  split
  · exact h
  · split
    · exact h
    · obtain ⟨hholder, hwaiting⟩ := convRequest_lease (n.withMu { n.mu with st := .spanOn }) .mu (.lineSpan _ _ .normal)
      exact h.of_busy (by simp [hst]) (by simp [hst]) ⟨hholder, hwaiting⟩ (by simp) (by simp)

/-! ### The events -/

theorem enterStandby_client {n : Node} (h : n.Apart) (hidle : n.mu.st = .idle) : n.enterStandby.ClientLaw := by
  obtain ⟨-, hmu⟩ := seqStop_apart h
  have hasleep : n.asleep.Apart := ⟨by simp [asleep, powerDown], by simp [asleep, powerDown]⟩
  have hst : n.asleep.mu.st = .idle := by
    simp [asleep, hmu, hidle]
  rw [enterStandby_eq]
  split
  · exact hasleep.clientLaw hst
  · exact (hasleep.congr (by simp) (by simp)).clientLaw (by simpa using hst)

/-- R37: a stop of the sequencer. -/
theorem seqStop_client {n : Node} (h : n.ClientLaw) : n.seqStop.ClientLaw := by
  by_cases hidle : n.mu.st = .idle
  · obtain ⟨hapart, hmu⟩ := seqStop_apart (h.apart_of_idle hidle)
    exact hapart.clientLaw (by rw [hmu]; exact hidle)
  · have hpass := h.1 hidle
    have hstopped : n.seq.st ≠ .waitingCu →
        (n.withSeq { n.seq with st := .stopped, stepIndex := none, acc := none, due := none }).ClientLaw := fun hst => by
      obtain ⟨-, hlease, hwait, hturn, hactive⟩ := h
      exact ⟨fun _ => .inl rfl, hlease, hwait, fun hin => absurd (hturn hin) hst, hactive⟩
    unfold seqStop
    rcases hpass with hst | hst | hst
    · rw [hst]
      exact h
    · rw [hst]
      exact hstopped (by simp [hst])
    · rw [hst]
      exact hstopped (by simp [hst])

/-- R154: an abort withdraws the request of the operation and ends it. -/
theorem abortOperation_client {n : Node} (h : n.ClientLaw) {o : Operation} (ho : n.mu.op = some o) :
    (n.abortOperation o).ClientLaw := by
  obtain ⟨-, -, -, hturn, -⟩ := h
  have hapart : (n.leaseWithdraw .mu).Apart :=
    ⟨fun hin => (mem_filter_ne.mp hin).2 rfl, fun hin => by simpa using hturn (mem_filter_ne.mp hin).1⟩
  have hop : (n.leaseWithdraw .mu).mu.op = some o := by simpa using ho
  unfold abortOperation
  dsimp only
  split
  · exact endOperation_client hapart hop _ _ _
  · exact endOperation_client hapart hop _ _ _

theorem enqueueCommand_client {n : Node} (h : n.ClientLaw) (f : Frame) : (n.enqueueCommand f).ClientLaw := by
  unfold enqueueCommand
  split
  · dsimp only
    split <;> exact h.congr (by simp [clients]) (by simp)
  · dsimp only
    split <;> exact h.congr (by simp [clients]) (by simp)

theorem Taken.client {f : Frame} {n m : Node} (hm : n.Taken f m) (h : n.ClientLaw) (hpower : n.pc.power = .active) :
    m.ClientLaw := by
  have hanswer : ∀ {m : Node}, m.ClientLaw → ∀ (st : Status) (data : List Byte), (m.answer f st data).ClientLaw :=
    fun hm st data => hm.congr (by simp [clients]) (by simp)
  cases hm with
  | nodeReset =>
    refine hanswer ?_ _ _
    obtain ⟨-, -, -, -, hcu, hseq, -, -, -, -, hmu, -⟩ := softReset_left n
    refine Apart.clientLaw ⟨?_, ?_⟩ (by rw [hmu])
    · rw [hcu]
      simp [cuSoftReset]
    · rw [hcu]
      simp [cuSoftReset]
  | scanStarted hst hmu =>
    have hidle : n.mu.st = .idle := by simpa [MaintenanceUnit.inFlight] using hmu
    obtain ⟨hapart, hkept⟩ := passStart_apart (h.apart_of_idle hidle).muOut true
    exact hanswer (hapart.clientLaw (by rw [hkept]; exact hidle)) _ _
  | scanStopped => exact hanswer (seqStop_client h) _ _
  | operationAccepted b hb => exact acceptOperation_client h hb hpower f b
  | operationAborted o ho => exact abortOperation_client (hanswer h .ok []) (by simpa using ho)
  | standbyEntered hmu hw =>
    have hidle : n.mu.st = .idle := by simpa [MaintenanceUnit.inFlight] using hmu
    exact enterStandby_client ((h.apart_of_idle hidle).congr (by simp) (by simp)) (by simpa using hidle)
  | saveBegun hss => exact h
  | populationSet v hv hallowed => exact hanswer (h.congr (m := n.changePopulation v) rfl id) _ _
  | defaultsRestored hd => exact hanswer (h.congr (m := n.restoreDefaults) rfl id) _ _
  | _ => exact h.congr (by simp [clients]) (by simp)

theorem Heard.client {k : Lane} {n m : Node} (hm : n.Heard k m) (h : n.ClientLaw) : m.ClientLaw := by
  cases hm with
  | northbound f hk =>
    have hhunt : (n.setReceiver .rxS .hunt).ClientLaw := h.congr (by simp [clients]) (by simp)
    generalize n.setReceiver .rxS .hunt = m at hhunt
    rcases m.northbound_cases f with heq | heq | heq | heq
    · rw [heq]
      exact enqueueCommand_client hhunt f
    · rw [heq]
      exact (enqueueCommand_client hhunt f).congr (by simp [clients]) (by simp)
    · rw [heq]
      exact hhunt.congr (by simp [clients]) (by simp)
    · rw [heq]
      exact hhunt
  | _ => exact h.congr (by simp [clients, abandon]) (by simp [abandon])

theorem Expired.client {n e : Node} {t : Nat} (he : n.Expired t (n.withNow t) e) (h : (n.withNow t).ClientLaw)
    (hlaw : (n.withNow t).PowerLaw) : e.ClientLaw := by
  cases he with
  | driveReleased hphase => exact h.congr (by simp [clients]) (by simp [beginStartUp_pc])
  | loaded hphase =>
    have hstarting := starting_of_phase hlaw (by simp [hphase])
    have hidle : (n.withNow t).mu.st = .idle := h.2.2.2.2 (by rw [hstarting]; decide)
    have hstarted : (n.withNow t).started.Apart := (h.apart_of_idle hidle).congr (by simp [started]) (by simp [started])
    have hstidle : (n.withNow t).started.mu.st = .idle := by simpa [started] using hidle
    obtain ⟨hapart, hmu⟩ := autostart_apart hstarted
    exact hapart.clientLaw ((congrArg MaintenanceUnit.st hmu).trans hstidle)
  | settled hst => exact enterIdle_client h
  | recovered hst => exact enterIdle_client h
  | converted c reading hst hc => exact deliver_client (conversionEnds_client h) _
  | passDue hst hmu =>
    have hidle : (n.withNow t).mu.st = .idle := by simpa [MaintenanceUnit.inFlight] using hmu
    obtain ⟨hapart, hkept⟩ := passStart_apart (h.apart_of_idle hidle).muOut false
    exact hapart.clientLaw (by rw [hkept]; exact hidle)
  | passDeferred hst hmu =>
    obtain ⟨-, hlease, hwait, hturn, hactive⟩ := h
    refine ⟨fun _ => .inr (.inr rfl), hlease, hwait, fun hin => ?_, hactive⟩
    have hwaiting : n.seq.st = .waitingCu := hturn hin
    rw [hst] at hwaiting
    cases hwaiting
  | quietGranted who r hr hgrant =>
    have hgranted : ((n.withNow t).withEq { (n.withNow t).eq with
        quiet := (n.withNow t).eq.quiet.set who (some { r with granted := true }) }).ClientLaw := h.congr rfl id
    exact actOnGrant_client hgranted who
  | injected hst => exact injectSettled_client h hst
  | saved v hv =>
    unfold saveEnd
    dsimp only
    split <;> exact h.congr (by simp [clients]) (by simp)
  | watchBegun htimer =>
    refine leaseRequest_watch_client (h.congr ?_ (by simp))
    simp [clients, advancePass]
  | silent hli => exact h.congr (by simp [clients, linkSilence]) (by simp [linkSilence, raiseFault_eq])
  | _ => exact h.congr (by simp [clients, abandon]) (by simp [abandon])

theorem Event.client {n m : Node} (hm : n.Event m) (h : n.ClientLaw) (hlaw : n.PowerLaw) : m.ClientLaw := by
  have hcold : ∀ (m : Node) (cause : ResetCause) (phase : Phase), (m.coldReset cause phase).ClientLaw :=
    fun m cause phase => Apart.clientLaw ⟨by simp [coldReset, cold], by simp [coldReset, cold]⟩ rfl
  cases hm with
  | supplied dt =>
    exact (hcold (n.elapse dt) .powerOn (.loading ((n.elapse dt).now + Config.loadTime))).congr
      (by simp [powerOnReset, clients]) (by simp [powerOnReset])
  | broken dt => exact hcold _ _ _
  | unsupplied dt => exact hcold _ _ _
  | released dt hphase => exact h.congr (by simp [clients, elapse]) (by simp [elapse, beginStartUp_pc])
  | expiry t hdue he => exact he.client (h.congr rfl id) hlaw
  | symbol dt k y he => exact he.client (h.congr (by simp [clients, elapse]) (by simp [elapse]))
  | command f rest ht he => exact he.client (h.congr rfl id) ht.2.1

theorem finish_client {n : Node} (h : n.ClientLaw) : n.finish.ClientLaw := h.congr (by simp [clients]) (by simp)

end Node

/-- R96, R104: outside RUNNING every switch is open at the end of an event. -/
def Node.OpenLaw (n : Node) : Prop := n.eq.st ≠ .running → ∀ c ∈ n.eq.channels, c.closed = false

theorem Node.finish_open (n : Node) : n.finish.OpenLaw := fun hst c hc => by
  refine Bool.eq_false_iff.mpr fun hclosed => ?_
  obtain ⟨hrunning, -⟩ := (n.finish.mayClose_iff _ _).mp (n.finish_switchLaw c hc hclosed)
  exact hst hrunning

/-- Settles O54: the power state with the Equalizer's, the clients of the converter, and the switches, each event. -/
theorem statesOfTheBlocksAgree : Obligations.StatesOfTheBlocksAgree := by
  intro s t hpower heq hclient h
  obtain ⟨hidle, hrunning, hstopped, hkept, hopen⟩ := heq
  have hstate : s.StateLaw := ⟨hpower, hidle, hrunning, hstopped, hkept⟩
  obtain ⟨⟨hpower', hcoherent⟩, hclient', hopen'⟩ := step_keeps (P := fun n => n.StateLaw ∧ n.ClientLaw ∧ n.OpenLaw)
    (fun _ m ⟨hstate, hclient, _⟩ hm =>
      ⟨Node.finish_state (hm.state hstate), Node.finish_client (hm.client hclient hstate.1), m.finish_open⟩)
    ⟨hstate, hclient, hopen⟩ h
  obtain ⟨hidle', hrunning', hstopped', hkept'⟩ := hcoherent
  exact ⟨hpower', ⟨hidle', hrunning', hstopped', hkept', hopen'⟩, hclient'⟩

end Sys2Proof.Machine
end
